-- ==== Sys2Proof/Word.lean ====
section
/-! DEFINITION. The byte of the host line and of the leg links, and the body-frame vectors. -/

namespace Sys2Proof

/-- One character of a serial line: 8 data bits (11, The Host Link). -/
abbrev Byte := BitVec 8

/-- A position in the body frame, whole millimetres (R1). -/
structure Point where
  x : Int
  y : Int
  z : Int
  deriving DecidableEq, Repr

/-- A horizontal pair: a hip, a sway, a shift, the projected point P. -/
structure Pair where
  x : Int
  y : Int
  deriving DecidableEq, Repr

/-- A down-vector reading, in units of 1/4096 g (R21). -/
structure Sample where
  dx : Int
  dy : Int
  dz : Int
  deriving DecidableEq, Repr

def Point.zero : Point := ⟨0, 0, 0⟩
def Pair.zero : Pair := ⟨0, 0⟩
def Sample.zero : Sample := ⟨0, 0, 0⟩

end Sys2Proof
end

