-- ==== Sys2Proof/Syntax.lean ====
section
/-! DEFINITION. The commands of the QB40: one constructor for each row of spec/opcode_table.json. -/

namespace Sys2Proof

/-- The four legs in index order (R2). -/
inductive Leg where
  | lf | rf | lh | rh
  deriving DecidableEq, Repr

def Leg.index : Leg → Nat
  | .lf => 0
  | .rf => 1
  | .lh => 2
  | .rh => 3

/-- Leg of a leg index; an index outside 0..3 names none. -/
def Leg.ofIndex? : Nat → Option Leg
  | 0 => some .lf
  | 1 => some .rf
  | 2 => some .lh
  | 3 => some .rh
  | _ => none

/-- Index order (R2). -/
def Leg.all : List Leg := [.lf, .rf, .lh, .rh]
/-- Polygon order, counter-clockwise from above (R2). -/
def Leg.polygon : List Leg := [.lf, .lh, .rh, .rf]

/-- One constructor for each row of the table. `seq` is the sequence of the host frame that
carries the message; leg, count, direction and tag operands are the bytes of the frame. -/
inductive Instr where
  /-- POWER_UP_RESET (R20). -/
  | powerUpReset
  /-- WARM_RESET (R15). -/
  | warmReset
  /-- LOW_RUN_MEASURED (R187): the length of a low run of the host line, in nanoseconds. -/
  | lowRunMeasured (ns : Nat)
  /-- HOST_LINE_BREAK (R188). -/
  | hostLineBreak
  /-- HOST_FRAME_COMPLETE (R189): the bytes of the frame, start byte first, CRC last. -/
  | hostFrameComplete (frame : List Byte)
  /-- HOST_FRAME_BYTE_TIMEOUT (R189). -/
  | hostFrameByteTimeout
  /-- HOST_BYTE_FRAMING_ERROR (R189). -/
  | hostByteFramingError
  /-- HOST_LINE_LOW_20_BITS (R189). -/
  | hostLineLow20Bits
  /-- TAKE_FRAME (R191). -/
  | takeFrame
  /-- TRANSMIT_START (R196). -/
  | transmitStart
  /-- TRANSMIT_DONE (R196). -/
  | transmitDone
  /-- ASK (R192). -/
  | ask (seq unit item : Byte)
  /-- TELL_READ_ONLY (R192): a TELL of a read-only or absent item. -/
  | tellReadOnly (seq unit item : Byte)
  /-- TELL_GEOMETRY (R4). -/
  | tellGeometry (seq : Byte) (payload : List Byte)
  /-- TELL_ODOMETER (R68): the value the payload spells. -/
  | tellOdometer (seq : Byte) (value : Int)
  /-- TELL_ZONE_ENTRY (R110): the entry's index is the item. -/
  | tellZoneEntry (seq index : Byte) (payload : List Byte)
  /-- TELL_REFLEX_TABLE (R145): cause code, leg, and the kind code and parameter sent. -/
  | tellReflexTable (seq : Byte) (code : Nat) (leg : Leg) (kind param : Nat)
  /-- TELL_SLIP_WINDOW (R126). -/
  | tellSlipWindow (seq : Byte) (leg : Leg) (payload : List Byte)
  /-- TELL_NOTE_MASK (R197). -/
  | tellNoteMask (seq : Byte) (payload : List Byte)
  /-- RISE (R6). -/
  | rise (seq : Byte)
  /-- SETTLE (R11). -/
  | settle (seq : Byte)
  /-- STRIDE (R48). -/
  | stride (seq count dir : Byte)
  /-- STOP (R66, R67). -/
  | stop (seq : Byte)
  /-- CONTINUE (R65). -/
  | continueWalk (seq : Byte)
  /-- RESEAT (R85). -/
  | reseat (seq : Byte)
  /-- CALIBRATE (R170). -/
  | calibrate (seq leg : Byte)
  /-- WITHDRAW (R173). -/
  | withdraw (seq leg : Byte)
  /-- ADMIT (R175). -/
  | admitLeg (seq leg : Byte)
  /-- PLAN (R95): leg, number of entries, and the bytes of the entries. -/
  | plan (seq leg count : Byte) (entries : List Byte)
  /-- UNPLAN (R97): leg and one tag. -/
  | unplan (seq leg tag : Byte)
  /-- UNPLAN_ALL (R98). -/
  | unplanAll (seq leg : Byte)
  /-- SWAP (R99): leg and the bytes of one entry. -/
  | swap (seq leg : Byte) (entry : List Byte)
  /-- REFLEXES_ON (R140). -/
  | reflexesOn (seq : Byte)
  /-- REFLEXES_OFF (R140). -/
  | reflexesOff (seq : Byte)
  /-- RESUME (R157). -/
  | resume (seq : Byte)
  /-- RESET (R193). -/
  | reset (seq : Byte)
  /-- ATTITUDE_DATA_READY (R21). -/
  | attitudeDataReady
  /-- SAMPLE_READ (R22): the components read, or none for a failed read. -/
  | sampleRead (sample : Option Sample)
  /-- STALE_TIMEOUT (R24): 20 ms without an accepted sample. -/
  | staleTimeout
  /-- TIP_STALE_TIMEOUT (R25): 200 ms without an accepted sample. -/
  | tipStaleTimeout
  /-- SURVEY_TIMEOUT (R41). -/
  | surveyTimeout
  /-- RISE_TIMEOUT (R9). -/
  | riseTimeout
  /-- LOWERING_TIMEOUT (R13). -/
  | loweringTimeout
  /-- SHIFT_STALL (R57). -/
  | shiftStall
  /-- SWING_TIMEOUT (R59). -/
  | swingTimeout
  /-- PROPEL_STALL (R62). -/
  | propelStall
  /-- PAUSE_END (R64). -/
  | pauseEnd
  /-- PLACE_TIMEOUT (R76). -/
  | placeTimeout
  /-- RESWING_TIMEOUT (R80). -/
  | reswingTimeout
  /-- STEADY_TIMEOUT (R128). -/
  | steadyTimeout (leg : Leg)
  /-- BRACE_TIMEOUT (R149). -/
  | braceTimeout
  /-- CROUCH_TIMEOUT (R156). -/
  | crouchTimeout
  /-- RETRACT_LIFT_TIMEOUT (R147). -/
  | retractLiftTimeout
  /-- LEG_REFRESH_DUE (R162). -/
  | legRefreshDue (leg : Leg)
  /-- LEG_COMMAND_SEND (R162). -/
  | legCommandSend (leg : Leg)
  /-- LEG_REPORT_ARRIVAL (R164): the bytes of the record that arrived. -/
  | legReportArrival (leg : Leg) (record : List Byte)
  /-- LEG_REPORT_TIMEOUT (R163). -/
  | legReportTimeout (leg : Leg)
  /-- CALIB_TIMEOUT (R172). -/
  | calibTimeout (leg : Leg)
  /-- CALIB_SETTLE_END (R171). -/
  | calibSettleEnd (leg : Leg)
  /-- HOLD_TIMER_EXPIRY (R179). -/
  | holdTimerExpiry (leg : Leg)
  /-- HOTZ_SENSE (R183): the line as sensed at the end of a sense window. -/
  | hotzSense (asserted : Bool)
  /-- HOTZ_DRIVE_WINDOW (R184). -/
  | hotzDriveWindow
  /-- HOST_BYTE_RECEIVED (R189). -/
  | hostByteReceived (byte : Byte)
  /-- DRIVE_WINDOW_END (R184). -/
  | driveWindowEnd
  deriving DecidableEq, Repr

end Sys2Proof
end

