-- ==== Sys2Proof/Config.lean ====
section
/-! DEFINITION. The capacities of the part's lists, and the values the spec leaves open. -/

namespace Sys2Proof.Config

/-- R190: complete frames the input queue holds. -/
def inputQueueCapacity : Nat := 4
/-- R194: notes the note queue holds. -/
def noteQueueCapacity : Nat := 16
/-- R93: entries one foothold queue holds. -/
def footholdCapacity : Nat := 8
/-- R143: contexts the context stack holds. -/
def contextCapacity : Nat := 4
/-- R125: slots of the deviation store. -/
def storeSlots : Nat := 64
/-- R109: entries of the zone table. -/
def zoneCount : Nat := 16
/-- R109: the index that reports the built-in defaults. -/
def defaultsIndex : Nat := 255
/-- R68: the greatest odometer value. -/
def odometerMax : Nat := 16777215

/-- DESIGN CHOICE, log entry 8. The coordinate (axis 0, 1, 2) at which a leg that has never
reported would be found. The spec states none, and no run asks for it: a leg joins the
stance set, and a leg's link becomes OK, only on a report that was taken. Left free. -/
opaque unreportedFoot (axis leg : Nat) : Int

end Sys2Proof.Config
end

