-- ==== Sys2Proof/Machine/Types.lean ====
section
/-! DEFINITION. The vocabulary of the QB40: states, modes, phases, causes, statuses, and the records
that the blocks hold and exchange. -/

namespace Sys2Proof.Machine

/-! ## Per-leg data -/

/-- One value for each leg. -/
structure PerLeg (α : Type) where
  lf : α
  rf : α
  lh : α
  rh : α
  deriving DecidableEq, Repr

namespace PerLeg

def all {α : Type} (a : α) : PerLeg α := ⟨a, a, a, a⟩

def get {α : Type} (p : PerLeg α) : Leg → α
  | .lf => p.lf
  | .rf => p.rf
  | .lh => p.lh
  | .rh => p.rh

def set {α : Type} (p : PerLeg α) (l : Leg) (a : α) : PerLeg α :=
  match l with
  | .lf => { p with lf := a }
  | .rf => { p with rf := a }
  | .lh => { p with lh := a }
  | .rh => { p with rh := a }

def modify {α : Type} (p : PerLeg α) (l : Leg) (f : α → α) : PerLeg α := p.set l (f (p.get l))

def map {α β : Type} (f : α → β) (p : PerLeg α) : PerLeg β := ⟨f p.lf, f p.rf, f p.lh, f p.rh⟩

/-- The values by leg. -/
def tab {α : Type} (f : Leg → α) : PerLeg α := ⟨f .lf, f .rf, f .lh, f .rh⟩

/-- In index order (R2). -/
def toList {α : Type} (p : PerLeg α) : List α := [p.lf, p.rf, p.lh, p.rh]

end PerLeg

/-- A timer: stopped, or running with the milliseconds since its start. -/
abbrev Timer := Option Nat

/-! ## Posture -/

/-- The body state (01, The body state). -/
inductive BodyState where
  | rest | rising | stand | walk | hold | recover | lowering | unsettled
  deriving DecidableEq, Repr

/-- The reason a BODY note carries (R5). -/
inductive BodyReason where
  | host | done | timeout | fault | reflex | resume | reset
  deriving DecidableEq, Repr

/-- The geometry record (01, The geometry record). -/
structure Geometry where
  hip : PerLeg Pair
  cx : Int
  cy : Int
  cz : Int
  stand : Int
  crouch : Int
  widening : Int
  critical : Int
  deriving DecidableEq, Repr

/-! ## Support -/

/-- A published margin with its marks (R35). -/
structure Margin where
  value : Int
  notReady : Bool
  degenerate : Bool
  deriving DecidableEq, Repr

/-- The four sample slots, newest first (R23). -/
structure Slots where
  s0 : Sample
  s1 : Sample
  s2 : Sample
  s3 : Sample
  deriving DecidableEq, Repr

/-! ## Walking -/

inductive Phase where
  | idle | shift | swing | place | propel | pause
  deriving DecidableEq, Repr

inductive Direction where
  | forward | backward
  deriving DecidableEq, Repr

/-- Commanded modes (R45). -/
inductive LegMode where
  | limp | stance | swing | placing | hold | calib
  deriving DecidableEq, Repr

/-- Surface classes (R73). -/
inductive Surface where
  | solid | grating | stair | spill
  deriving DecidableEq, Repr

/-- What the SSQ commands of a leg (R45). -/
structure LegCmd where
  mode : LegMode
  target : Point
  clearance : Int
  deriving DecidableEq, Repr

/-- Four legs in stepping order (R50). -/
structure LegOrder where
  first : Leg
  second : Leg
  third : Leg
  fourth : Leg
  deriving DecidableEq, Repr

/-- The latched step parameters (R51). -/
structure StepParams where
  stride : Int
  clearance : Int
  threshold : Int
  swayLimit : Int
  maxReplace : Nat
  surface : Surface
  derate : Nat
  effective : Int
  deriving DecidableEq, Repr

/-- A leg and its step index (R53). -/
structure NextStep where
  leg : Leg
  index : Nat
  deriving DecidableEq, Repr

inductive SubState where
  | lower | reswing
  deriving DecidableEq, Repr

inductive Origin where
  | stand | hold | unsettled
  deriving DecidableEq, Repr

/-- A foothold entry (05, Queues and entries). -/
structure Foothold where
  tag : Nat
  dx : Int
  dy : Int
  dz : Int
  alternates : List Pair
  contact : Option Int
  inUse : Bool
  deriving DecidableEq, Repr

/-- One leg's queue, head first, and its last tags (R93, R102, R103). -/
structure FootholdQueue where
  entries : List Foothold
  consumed : Option Nat
  discarded : Option Nat
  deriving DecidableEq, Repr

/-! ## Zones -/

/-- Reflex selection modes (R144). -/
inductive SelectMode where
  | fixed | leg | table
  deriving DecidableEq, Repr

/-- The parameters a zone puts in force (R109). -/
structure ZoneParams where
  surface : Surface
  stride : Int
  clearance : Int
  order : LegOrder
  threshold : Int
  swayLimit : Int
  maxReplace : Nat
  slipThreshold : Nat
  select : SelectMode
  deriving DecidableEq, Repr

structure ZoneEntry where
  valid : Bool
  limit : Nat
  params : ZoneParams
  deriving DecidableEq, Repr

/-- The reason of a ZONE note (R115). -/
inductive ZoneReason where
  | propel | odometer | table
  deriving DecidableEq, Repr

/-! ## Slip -/

/-- What the SLM holds for a leg (07, state table). -/
structure SlipLeg where
  start : Nat
  length : Nat
  next : Nat
  fill : Nat
  newest : Option Nat
  steady : Bool
  steadyTimer : Timer
  slip : Bool
  lowForce : Nat
  lastThreshold : Option Nat
  deriving DecidableEq, Repr

/-! ## Reflexes -/

/-- The maskable causes, codes 1 to 6 (R136). -/
inductive Cause where
  | slip | obstruct | placeFail | overload | unload | linkLost
  deriving DecidableEq, Repr

def Cause.code : Cause → Nat
  | .slip => 1
  | .obstruct => 2
  | .placeFail => 3
  | .overload => 4
  | .unload => 5
  | .linkLost => 6

def Cause.ofCode? : Nat → Option Cause
  | 1 => some .slip
  | 2 => some .obstruct
  | 3 => some .placeFail
  | 4 => some .overload
  | 5 => some .unload
  | 6 => some .linkLost
  | _ => none

/-- R136: SLIP and OVERLOAD are level causes, the others edge causes. -/
def Cause.level : Cause → Bool
  | .slip => true
  | .overload => true
  | _ => false

/-- What a reflex answers: a maskable cause, or TIP (R136). -/
inductive Trigger where
  | cause (c : Cause)
  | tip
  deriving DecidableEq, Repr

def Trigger.code : Trigger → Nat
  | .cause c => c.code
  | .tip => 7

/-- Reflex kinds (R146). -/
inductive Kind where
  | none | retract | reseatOne | brace | regroup | crouch
  deriving DecidableEq, Repr

def Kind.code : Kind → Nat
  | .none => 1
  | .retract => 2
  | .reseatOne => 3
  | .brace => 4
  | .regroup => 5
  | .crouch => 6

/-- Reflex stages (R146); a NONE has none. -/
inductive Stage where
  | none | lift | place | reseat | wait | pass | crouch
  deriving DecidableEq, Repr

/-- A reflex table item (R145). -/
structure ReflexItem where
  kind : Kind
  param : Int
  deriving DecidableEq, Repr

/-- One value for each maskable cause. -/
structure PerCause (α : Type) where
  slip : α
  obstruct : α
  placeFail : α
  overload : α
  unload : α
  linkLost : α
  deriving DecidableEq, Repr

namespace PerCause

def get {α : Type} (p : PerCause α) : Cause → α
  | .slip => p.slip
  | .obstruct => p.obstruct
  | .placeFail => p.placeFail
  | .overload => p.overload
  | .unload => p.unload
  | .linkLost => p.linkLost

def set {α : Type} (p : PerCause α) (c : Cause) (a : α) : PerCause α :=
  match c with
  | .slip => { p with slip := a }
  | .obstruct => { p with obstruct := a }
  | .placeFail => { p with placeFail := a }
  | .overload => { p with overload := a }
  | .unload => { p with unload := a }
  | .linkLost => { p with linkLost := a }

end PerCause

/-- An entry of the pending cause list; its kind follows from the cause (R138). -/
structure Pending where
  cause : Cause
  leg : Leg
  deriving DecidableEq, Repr

/-- The running reflex (08, state table). `lift` is the clearance sent at its LIFT, kept for its PLACE (R147;
DESIGN CHOICE, log entry 16). -/
structure Running where
  kind : Kind
  trigger : Trigger
  leg : Option Leg
  param : Int
  retract : Point
  stage : Stage
  lift : Int
  deriving DecidableEq, Repr

/-- R160: what a readout shows of a reflex; the clearance kept for PLACE is no part of it. -/
def Running.shown (r : Running) : Running := { r with lift := 0 }

/-- A context, with the fields its tag records (R143). -/
inductive Context where
  | walk (leg : Option Leg) (index : Nat) (phase : Phase) (count : Nat) (dir : Direction) (attempts : Nat)
  | stand
  | hold (next : Option NextStep) (count : Nat) (dir : Direction)
  | unsettled
  | reseat (origin : Origin) (pass count : Nat) (dir : Direction) (next : Option NextStep) (attempts : Nat)
  | recover (reflex : Running)
  deriving DecidableEq, Repr

/-- R160: what a readout shows of a context. -/
def Context.shown : Context → Context
  | .recover r => .recover r.shown
  | c => c

inductive CrouchMark where
  | clear | running | crouched
  deriving DecidableEq, Repr

/-- The event of a REFLEX note (R160). -/
inductive ReflexEvent where
  | taken | done | failed | timeout | again | held | resumed
  deriving DecidableEq, Repr

/-! ## Leg links -/

inductive LinkState where
  | wait | ok | lost
  deriving DecidableEq, Repr

/-- The fields of a report record (R165). -/
structure Report where
  x : Int
  y : Int
  z : Int
  force : Int
  temp : Int
  swingDone : Bool
  obstruct : Bool
  overload : Bool
  calibBusy : Bool
  calibDone : Bool
  fault : Bool
  suggested : Nat
  deriving DecidableEq, Repr

inductive CalibState where
  | idle | awaitBusy | awaitDone | settle
  deriving DecidableEq, Repr

/-- What the LLC holds for a leg (09, state table). `sent` is the last command record put on the
leg's link, the link's output (DESIGN CHOICE, log entry 7). -/
structure Link where
  link : LinkState
  awaiting : Bool
  sendWaiting : Bool
  refresh : Timer
  report : Timer
  miss : Nat
  good : Nat
  missTotal : Nat
  last : Option Report
  moduleFault : Bool
  obstruct : Bool
  overload : Bool
  withdrawn : Bool
  calib : CalibState
  calibTimer : Timer
  firstDone : Bool
  sent : Option (List Byte)
  deriving DecidableEq, Repr

/-- The result of a CALIB note (R171, R176). -/
inductive CalibResult where
  | done
  deriving DecidableEq, Repr

/-- The event of a LEG note (R176). -/
inductive LegEvent where
  | lost | ok | moduleFault | withdrawn | admitted
  deriving DecidableEq, Repr

/-! ## Thermal -/

/-- What the TDU holds for a leg (10, state table). -/
structure ThermalLeg where
  level : Nat
  hold : Timer
  last : Option Int
  deriving DecidableEq, Repr

/-- The HOTZ frame position (R183). -/
inductive HotzWindow where
  | sense | drive
  deriving DecidableEq, Repr

/-- The reason of a HEAT note (R181). -/
inductive HeatReason where
  | leg | external
  deriving DecidableEq, Repr

/-! ## Host link -/

/-- Status codes 0 to 14 (11, Record layouts); `latched` is PROTECTED. -/
inductive Status where
  | ok | clamped | busy | state | range | order | locked | full | duplicate | overlap | margin
  | absent | once | latched | unknown
  deriving DecidableEq, Repr

/-- Fault codes 1 to 12 (11, Record layouts). -/
inductive FaultCode where
  | attStale | riseFail | settleTimeout | protect | noMargin | stall | hotStop | causePending
  | reseatFail | calibFail | overflow | linkOverrun
  deriving DecidableEq, Repr

/-- The notes and what each carries (R194). -/
inductive Note where
  | body (left entered : BodyState) (reason : BodyReason)
  | step (leg : Option Leg) (attempts : Nat) (margin : Margin)
  | stride (count odometer : Nat)
  | reflex (event : ReflexEvent) (trigger : Trigger) (leg : Option Leg) (kind : Option Kind) (depth : Nat)
  | fault (code : FaultCode) (leg : Option Leg) (trigger : Option Trigger)
  | zone (left entered odometer : Nat) (reason : ZoneReason)
  | heat (left entered : Nat) (levels : PerLeg Nat) (external : Bool) (reason : HeatReason)
  | calib (leg : Leg) (result : CalibResult)
  | leg (leg : Leg) (event : LegEvent) (missTotal : Nat)
  deriving DecidableEq, Repr

/-- Note kind codes 1 to 9 (11, Record layouts). -/
def Note.kind : Note → Nat
  | .body .. => 1
  | .step .. => 2
  | .stride .. => 3
  | .reflex .. => 4
  | .fault .. => 5
  | .zone .. => 6
  | .heat .. => 7
  | .calib .. => 8
  | .leg .. => 9

inductive HostLinkState where
  | sync | framed
  deriving DecidableEq, Repr

/-- The four supported rates (R187). -/
inductive BitRate where
  | r115200 | r230400 | r460800 | r921600
  deriving DecidableEq, Repr

def BitRate.bitsPerSecond : BitRate → Nat
  | .r115200 => 115200
  | .r230400 => 230400
  | .r460800 => 460800
  | .r921600 => 921600

/-- A complete frame of the input queue: kind and sequence, the address bytes its kind has, payload. -/
structure Frame where
  kind : Byte
  seq : Byte
  address : List Byte
  payload : List Byte
  deriving DecidableEq, Repr

/-- What an ASK returns where the spec gives no byte layout: the fields, by name (log entry 5). -/
inductive Item where
  | identification (part : String) (revision : Nat)
  | bitRate (rate : Option Nat)
  | body (state : BodyState)
  | odometer (value : Nat)
  | mark (set : Bool)
  | walking (phase : Phase) (stepping : Option Leg) (index count : Nat) (dir : Direction)
      (next : Option NextStep) (stop : Bool) (order : LegOrder) (latched : StepParams)
  | placing (placement : Option Leg) (sub : SubState) (target : Point) (attempt : Nat)
      (attemptTarget : Point) (reseat : Bool) (origin : Origin) (pass : Nat) (set : List Leg)
      (reseatLeg : Option Leg)
  | marks (legs : PerLeg Bool)
  | link (state : LinkState) (miss good total : Nat) (last : Option Report) (obstruct overload : Bool)
  | command (cmd : LegCmd) (verified : Bool)
  | calibration (state : CalibState) (timeLeft : Option Nat) (firstDone : Bool)
  | thermalLeg (level : Nat) (holdLeft : Option Nat) (last : Option Int)
  | zoneInForce (index : Nat) (valid : Option Bool) (limit : Option Nat) (params : ZoneParams)
  | enables (re1 re2 waiting : Bool) (dropped : Nat)
  | pendingList (entries : List Pending)
  | stack (bottomFirst : List Context)
  | running (reflex : Option Running) (crouch : CrouchMark) (timeLeft : Option Nat)
  | reflexItem (item : ReflexItem)
  | slipWindow (start length fill : Nat) (records : List Nat) (newest lastThreshold : Option Nat)
      (slip : Bool) (lowForce : Nat) (steady : Bool)
  | thermal (body : Nat) (external : Bool) (lastSense : Option Bool) (run : Nat) (driving : Bool)
      (levels : PerLeg Nat) (holdLeft : PerLeg (Option Nat)) (last : PerLeg (Option Int))
  | attitude (dbar : Sample) (stale : Bool) (since rejected : Nat)
  | projection (p : Pair) (held : Bool) (shift : Pair) (h : Int)
  | support (stance : PerLeg Bool) (margin : Margin)
  | predicted (margin : Margin) (leg : Option Leg)
  | sway (acc : Pair)
  | tip (condition raised survey : Bool)
  deriving DecidableEq, Repr

/-- The payload of an ANSWER: bytes where the spec gives the layout, fields where it does not. -/
inductive Payload where
  | bytes (b : List Byte)
  | item (i : Item)
  deriving DecidableEq, Repr

def Payload.empty : Payload := .bytes []

/-- One ANSWER (R191). -/
structure Answer where
  seq : Byte
  status : Status
  payload : Payload
  deriving DecidableEq, Repr

/-- The transmitter: free, or sending one frame (R196). -/
inductive Transmitter where
  | free
  | answer (a : Answer)
  | note (n : Note) (lost : Bool)
  deriving DecidableEq, Repr

end Sys2Proof.Machine
end

