-- ==== Sys2Proof/Machine/State.lean ====
section
/-! DEFINITION. The state of the QB40, block by block, and its value right after power-up reset. -/

namespace Sys2Proof.Machine

/-- Posture Controller (01, R3, R5, R12, R14, R17). `roseReported` and `awaitFirst` are the marks that
"reported since the rise began" (R8) and "first report after the reset" (R15) need. -/
structure Posture where
  body : BodyState
  geom : Geometry
  written : Bool
  postureSafe : Bool
  protect : Bool
  riseTimer : Timer
  loweringTimer : Timer
  lowered : PerLeg Bool
  roseReported : PerLeg Bool
  awaitFirst : PerLeg Bool
  deriving DecidableEq, Repr

/-- Attitude Port (02, R21 to R24). -/
structure Attitude where
  slots : Option Slots
  rejected : Nat
  since : Nat
  reading : Bool
  deriving DecidableEq, Repr

/-- Support Computation Unit (02, "What the SCU holds"). `swayPublished` is the accumulator as the
last recomputation read it (R42). -/
structure Support where
  dbar : Sample
  attStale : Bool
  tipStale : Bool
  stance : PerLeg Bool
  zf : Int
  h : Int
  shift : Pair
  p : Pair
  pHeld : Bool
  margin : Margin
  predicted : Margin
  predictedLeg : Option Leg
  sway : Pair
  swayPublished : Pair
  tipCondition : Bool
  tipRaised : Bool
  survey : Bool
  surveyTimer : Timer
  deriving DecidableEq, Repr

/-- Stride Sequencer (03, state table). -/
structure Strider where
  phase : Phase
  stepping : Option Leg
  index : Nat
  count : Nat
  dir : Direction
  order : LegOrder
  latched : StepParams
  quarter : Int
  next : Option NextStep
  stopMark : Bool
  phaseTimer : Timer
  odometer : Nat
  cmd : PerLeg LegCmd
  verified : PerLeg Bool
  deriving DecidableEq, Repr

/-- Placement stage (04, state table). -/
structure Placer where
  placement : Option Leg
  sub : SubState
  attempt : Nat
  target : Point
  attemptTarget : Point
  liftClearance : Int
  maxReplace : Nat
  surface : Surface
  entry : Option Foothold
  placeTimer : Timer
  reswingTimer : Timer
  reseat : Bool
  origin : Origin
  pass : Nat
  reseatSet : List Leg
  reseatLeg : Option Leg
  deriving DecidableEq, Repr

/-- Zone Table (06, R109). -/
structure Zones where
  entries : List ZoneEntry
  inForce : Nat
  deriving DecidableEq, Repr

/-- Slip Monitor (07, state table). -/
structure Slip where
  store : List Nat
  legs : PerLeg SlipLeg
  deriving DecidableEq, Repr

/-- Reflex Unit (08, state table). The context stack is kept top first. `liftTimer` is the swing timer
of a RETRACT's LIFT (R147); `crouching` the set fixed when a CROUCH begins (R155); `passFailed`
says that a leg of the running PASS has failed (R91). -/
structure Reflexes where
  re1 : Bool
  re2 : Bool
  waiting : Bool
  pending : List Pending
  stack : List Context
  table : PerCause (PerLeg ReflexItem)
  running : Option Running
  crouch : CrouchMark
  crouching : PerLeg Bool
  stageTimer : Timer
  liftTimer : Timer
  dropped : Nat
  passFailed : Bool
  deriving DecidableEq, Repr

/-- Thermal Derating Unit (10, state table). -/
structure Thermal where
  legs : PerLeg ThermalLeg
  body : Nat
  external : Bool
  window : HotzWindow
  lastSense : Option Bool
  run : Nat
  driving : Bool
  deriving DecidableEq, Repr

/-- Host Link Interface (11, state table). `lineOut` holds the bytes last put on the host line where
the spec gives their layout; `warmNote` the warm-reset note with the states it will carry;
`resetTaken` that a DO RESET awaits the end of its ANSWER (R193). -/
structure HostLink where
  link : HostLinkState
  rate : Option BitRate
  measured : Option BitRate
  receiver : Option (List Byte)
  input : List Frame
  slot : Option Answer
  notes : List Note
  lost : Bool
  mask : BitVec 16
  tx : Transmitter
  lineOut : Option (List Byte)
  warmNote : Option (BodyState × BodyState)
  resetTaken : Bool
  deriving DecidableEq, Repr

/-- The whole machine, and the queue of the commands that wait, oldest first. -/
structure State where
  pc : Posture
  atp : Attitude
  scu : Support
  ssq : Strider
  pls : Placer
  fhq : PerLeg FootholdQueue
  ztb : Zones
  slm : Slip
  rxu : Reflexes
  llc : PerLeg Link
  tdu : Thermal
  hli : HostLink
  pending : List Instr
  deriving DecidableEq, Repr

/-- Reasons a command would stop the machine. The spec gives every event an effect, so there is none. -/
inductive Fault where
  deriving DecidableEq, Repr

/-- Reasons a command would have no meaning. -/
inductive Refusal where
  /-- Raised by exec for a command whose meaning is not written. Safe. No arm raises it now. -/
  | notModelled (mnemonic : String)
  deriving DecidableEq, Repr

/-! ## Reset values -/

/-- R3: every field 0 except the critical margin, which is 10. -/
def Geometry.powerUp : Geometry :=
  { hip := .all Pair.zero, cx := 0, cy := 0, cz := 0, stand := 0, crouch := 0, widening := 0, critical := 10 }

/-- R50: the leg order of the built-in defaults. -/
def LegOrder.default : LegOrder := ⟨.lh, .lf, .rh, .rf⟩

/-- R109: the built-in defaults. -/
def ZoneParams.default : ZoneParams :=
  { surface := .solid, stride := 100, clearance := 120, order := .default, threshold := 80,
    swayLimit := 100, maxReplace := 3, slipThreshold := 20, select := .fixed }

/-- R124: not valid, limit 0, the other fields the built-in defaults. -/
def ZoneEntry.blank : ZoneEntry := { valid := false, limit := 0, params := .default }

/-- R72: built-in defaults, derate level 0, effective stride 100. -/
def StepParams.default : StepParams :=
  { stride := 100, clearance := 120, threshold := 80, swayLimit := 100, maxReplace := 3,
    surface := .solid, derate := 0, effective := 100 }

/-- R43: -1023, NOT_READY and DEGENERATE. -/
def Margin.atReset : Margin := { value := -1023, notReady := true, degenerate := true }

/-- R43: the last predicted margin, -1023 and NOT_READY. -/
def Margin.predictedAtReset : Margin := { value := -1023, notReady := true, degenerate := false }

/-- R28: the height over an empty stance set, at least 50. -/
def Geometry.emptyHeight (g : Geometry) : Int := max (g.cz - g.stand) 50

/-- R43: the SCU after either reset, with the geometry then in force. -/
def Support.atReset (g : Geometry) : Support :=
  { dbar := Sample.zero, attStale := false, tipStale := false, stance := .all false, zf := g.stand,
    h := g.emptyHeight, shift := Pair.zero, p := Pair.zero, pHeld := false, margin := .atReset,
    predicted := .predictedAtReset, predictedLeg := none, sway := Pair.zero,
    swayPublished := Pair.zero, tipCondition := false, tipRaised := false, survey := false,
    surveyTimer := none }

/-- R43. -/
def Attitude.atReset : Attitude := { slots := none, rejected := 0, since := 0, reading := false }

/-- R72: LIMP at (0, 0, 0), clearance 0. -/
def LegCmd.atReset : LegCmd := { mode := .limp, target := Point.zero, clearance := 0 }

/-- R72. -/
def Strider.atReset : Strider :=
  { phase := .idle, stepping := none, index := 1, count := 0, dir := .forward, order := .default,
    latched := .default, quarter := 0, next := none, stopMark := false, phaseTimer := none,
    odometer := 0, cmd := .all .atReset, verified := .all false }

/-- R92. -/
def Placer.atReset : Placer :=
  { placement := none, sub := .lower, attempt := 0, target := Point.zero, attemptTarget := Point.zero,
    liftClearance := 0, maxReplace := 3, surface := .solid, entry := none, placeTimer := none,
    reswingTimer := none, reseat := false, origin := .stand, pass := 1, reseatSet := [],
    reseatLeg := none }

/-- R108. -/
def FootholdQueue.empty : FootholdQueue := { entries := [], consumed := none, discarded := none }

/-- R124. -/
def Zones.atReset : Zones :=
  { entries := List.replicate Config.zoneCount .blank, inForce := Config.defaultsIndex }

/-- R135. -/
def SlipLeg.atReset : SlipLeg :=
  { start := 0, length := 0, next := 0, fill := 0, newest := none, steady := true, steadyTimer := none,
    slip := false, lowForce := 0, lastThreshold := none }

/-- R135. -/
def Slip.atReset : Slip :=
  { store := List.replicate Config.storeSlots 0, legs := .all .atReset }

/-- R145: the defaults of the reflex table, the same for every leg. -/
def reflexDefaults : PerCause (PerLeg ReflexItem) :=
  { slip := .all ⟨.reseatOne, 0⟩, obstruct := .all ⟨.retract, 50⟩, placeFail := .all ⟨.regroup, 0⟩,
    overload := .all ⟨.brace, 40⟩, unload := .all ⟨.reseatOne, 0⟩, linkLost := .all ⟨.brace, 60⟩ }

/-- R161. -/
def Reflexes.atReset : Reflexes :=
  { re1 := true, re2 := true, waiting := false, pending := [], stack := [], table := reflexDefaults,
    running := none, crouch := .clear, crouching := .all false, stageTimer := none, liftTimer := none,
    dropped := 0, passFailed := false }

/-- R177; the first-done flag survives a warm reset. -/
def Link.atReset (firstDone : Bool) : Link :=
  { link := .wait, awaiting := false, sendWaiting := true, refresh := none, report := none, miss := 0,
    good := 0, missTotal := 0, last := none, moduleFault := false, obstruct := false,
    overload := false, withdrawn := false, calib := .idle, calibTimer := none, firstDone := firstDone,
    sent := none }

/-- R186. -/
def ThermalLeg.atReset : ThermalLeg := { level := 0, hold := none, last := none }

/-- R186. -/
def Thermal.atReset : Thermal :=
  { legs := .all .atReset, body := 0, external := false, window := .sense, lastSense := none, run := 0,
    driving := false }

/-- R197, R198: the mask with every kind 1 to 9 marked on. -/
def noteMaskAll : BitVec 16 := 0x01FF#16

/-- R198; the warm-reset note is set by a warm reset alone. -/
def HostLink.atReset (warm : Option (BodyState × BodyState)) : HostLink :=
  { link := .sync, rate := none, measured := none, receiver := none, input := [], slot := none,
    notes := [], lost := false, mask := noteMaskAll, tx := .free, lineOut := none, warmNote := warm,
    resetTaken := false }

/-- R20: the PC after power-up. -/
def Posture.powerUp : Posture :=
  { body := .rest, geom := .powerUp, written := false, postureSafe := true, protect := false,
    riseTimer := none, loweringTimer := none, lowered := .all false, roseReported := .all false,
    awaitFirst := .all false }

/-- The machine right after power-up reset: R20, R43, R72, R92, R108, R124, R135, R161, R177, R186,
R198. No command waits. -/
def State.reset : State :=
  { pc := .powerUp, atp := .atReset, scu := .atReset .powerUp, ssq := .atReset, pls := .atReset,
    fhq := .all .empty, ztb := .atReset, slm := .atReset, rxu := .atReset,
    llc := .all (.atReset false), tdu := .atReset, hli := .atReset none, pending := [] }

end Sys2Proof.Machine
end

