-- ==== Sys2Proof/Machine/Arith.lean ====
section
/-! DEFINITION. The arithmetic of the Conventions (00_scope.md): clamping, saturation, the integer floor
root; and the byte order, check byte and CRC of the records (11, Record layouts). -/

namespace Sys2Proof.Machine

/-- "Clamped to a range": a value beyond either end is replaced by that end. -/
def clamp (lo hi v : Int) : Int := max lo (min hi v)

/-- A target component outside -2000..+2000 is clamped to that range (R45). -/
def clampPoint (p : Point) : Point := ⟨clamp (-2000) 2000 p.x, clamp (-2000) 2000 p.y, clamp (-2000) 2000 p.z⟩

/-- A saturating count goes up by one and stops at `top`. -/
def countUp (top n : Nat) : Nat := min top (n + 1)

/-- One bit of the root after another, from bit `k - 1` down. -/
def rootFrom (n : Nat) : Nat → Nat → Nat
  | 0, r => r
  | k + 1, r => rootFrom n k (if (r + 2 ^ k) * (r + 2 ^ k) ≤ n then r + 2 ^ k else r)

/-- The integer floor root: the largest integer whose square does not exceed the argument. -/
def floorRoot (n : Nat) : Nat := rootFrom n (n.log2 / 2 + 1) 0

/-- +1 for FORWARD and -1 for BACKWARD (R58). -/
def Direction.sign : Direction → Int
  | .forward => 1
  | .backward => -1

/-- +1 for the left legs and -1 for the right legs: the outward side (R7). -/
def outward : Leg → Int
  | .lf => 1
  | .rf => -1
  | .lh => 1
  | .rh => -1

/-! ## Leg orders -/

def LegOrder.nth (o : LegOrder) : Nat → Leg
  | 1 => o.first
  | 2 => o.second
  | 3 => o.third
  | _ => o.fourth

/-- R50: for a BACKWARD stride the order is reversed. -/
def LegOrder.walked (o : LegOrder) : Direction → LegOrder
  | .forward => o
  | .backward => ⟨o.fourth, o.third, o.second, o.first⟩

/-- R111: each of the four legs appears exactly once. -/
def LegOrder.permutation (o : LegOrder) : Bool :=
  decide (o.first ≠ o.second ∧ o.first ≠ o.third ∧ o.first ≠ o.fourth ∧ o.second ≠ o.third ∧
    o.second ≠ o.fourth ∧ o.third ≠ o.fourth)

/-! ## Bytes -/

/-- Least significant byte first. -/
def natOfBytes : List Byte → Nat
  | [] => 0
  | b :: bs => b.toNat + 256 * natOfBytes bs

/-- `n` bytes, least significant first. -/
def bytesOfNat : Nat → Nat → List Byte
  | 0, _ => []
  | n + 1, v => BitVec.ofNat 8 v :: bytesOfNat n (v / 256)

/-- A two-byte two's complement field. -/
def intOf2 (lo hi : Byte) : Int := (hi ++ lo).toInt

def bytesOfInt2 (v : Int) : List Byte := bytesOfNat 2 (BitVec.ofInt 16 v).toNat

/-- The sum of the bytes, modulo 256. -/
def byteSum : List Byte → Byte
  | [] => 0#8
  | b :: bs => b + byteSum bs

/-- The two's complement of the sum, modulo 256, of every byte before it (R162). -/
def checkByte (bs : List Byte) : Byte := -(byteSum bs)

/-- One bit of CRC-16, polynomial 1021h, most significant bit first. -/
def crcBit (c : BitVec 16) : BitVec 16 :=
  if c.msb then (c <<< 1) ^^^ 0x1021#16 else c <<< 1

def crcByte (c : BitVec 16) (b : Byte) : BitVec 16 :=
  crcBit (crcBit (crcBit (crcBit (crcBit (crcBit (crcBit (crcBit (c ^^^ (b ++ 0#8)))))))))

/-- CRC-16 of polynomial 1021h, initial value FFFFh, no final inversion (R189). -/
def crc16 (bs : List Byte) : BitVec 16 := bs.foldl crcByte 0xFFFF#16

/-- The byte of a leg field: the leg index, or FFh for none. -/
def legByte : Option Leg → Byte
  | some l => BitVec.ofNat 8 l.index
  | none => 0xFF#8

end Sys2Proof.Machine
end

