-- ==== Sys2Proof/Machine/Operands.lean ====
section
/-! DEFINITION. The operand forms: every record and message whose byte layout the spec gives
(11, Record layouts), read and written. -/

namespace Sys2Proof.Machine

/-! ## Codes -/

/-- Status codes 0 to 14. -/
def Status.code : Status → Byte
  | .ok => 0 | .clamped => 1 | .busy => 2 | .state => 3 | .range => 4 | .order => 5 | .locked => 6
  | .full => 7 | .duplicate => 8 | .overlap => 9 | .margin => 10 | .absent => 11 | .once => 12
  | .latched => 13 | .unknown => 14

/-- Fault codes 1 to 12. -/
def FaultCode.code : FaultCode → Byte
  | .attStale => 1 | .riseFail => 2 | .settleTimeout => 3 | .protect => 4 | .noMargin => 5
  | .stall => 6 | .hotStop => 7 | .causePending => 8 | .reseatFail => 9 | .calibFail => 10
  | .overflow => 11 | .linkOverrun => 12

/-- REFLEX note events 1 to 7; `again` is REPEAT. -/
def ReflexEvent.code : ReflexEvent → Byte
  | .taken => 1 | .done => 2 | .failed => 3 | .timeout => 4 | .again => 5 | .held => 6 | .resumed => 7

def LegMode.code : LegMode → Byte
  | .limp => 0 | .stance => 1 | .swing => 2 | .placing => 3 | .hold => 4 | .calib => 5

def Surface.code : Surface → Byte
  | .solid => 0 | .grating => 1 | .stair => 2 | .spill => 3

def Surface.ofCode? : Nat → Option Surface
  | 0 => some .solid
  | 1 => some .grating
  | 2 => some .stair
  | 3 => some .spill
  | _ => none

def SelectMode.code : SelectMode → Byte
  | .fixed => 0 | .leg => 1 | .table => 2

def SelectMode.ofCode? : Nat → Option SelectMode
  | 0 => some .fixed
  | 1 => some .leg
  | 2 => some .table
  | _ => none

/-- The five kinds a reflex table item may hold (R145); CROUCH is outside them. -/
def Kind.ofCode? : Nat → Option Kind
  | 1 => some .none
  | 2 => some .retract
  | 3 => some .reseatOne
  | 4 => some .brace
  | 5 => some .regroup
  | _ => Option.none

def Direction.ofCode? : Nat → Option Direction
  | 0 => some .forward
  | 1 => some .backward
  | _ => none

/-! ## Leg link records -/

/-- R162: the force limit sent with a mode. -/
def LegMode.forceLimit : LegMode → Nat
  | .limp => 0
  | .calib => 0
  | .stance => 1200
  | .hold => 1200
  | .swing => 200
  | .placing => 600

/-- The command record, 12 bytes, check byte last (R162). -/
def commandRecord (c : LegCmd) : List Byte :=
  let body := c.mode.code :: (bytesOfInt2 c.target.x ++ bytesOfInt2 c.target.y ++ bytesOfInt2 c.target.z ++
    bytesOfInt2 c.clearance ++ bytesOfNat 2 c.mode.forceLimit)
  body ++ [checkByte body]

/-- What a record that arrives shows (R164): a miss, a miss with a sound check and FAULT set, or a
good report. -/
inductive ReportJudged where
  | miss
  | moduleFault
  | good (r : Report)
  deriving DecidableEq, Repr

/-- The fields of a report record of 13 bytes; bits 6 and 7 of the flags are not examined. -/
def reportOfBytes : List Byte → Option Report
  | [x0, x1, y0, y1, z0, z1, f0, f1, t0, t1, flags, suggested, _] =>
    some { x := intOf2 x0 x1, y := intOf2 y0 y1, z := intOf2 z0 z1, force := natOfBytes [f0, f1],
           temp := intOf2 t0 t1, swingDone := flags.getLsbD 0, obstruct := flags.getLsbD 1,
           overload := flags.getLsbD 2, calibBusy := flags.getLsbD 3, calibDone := flags.getLsbD 4,
           fault := flags.getLsbD 5, suggested := suggested.toNat }
  | _ => none

def inRange (lo hi v : Int) : Bool := decide (lo ≤ v ∧ v ≤ hi)

/-- R164: every field of the report lies within its range. -/
def Report.inRanges (r : Report) : Bool :=
  inRange (-2000) 2000 r.x && inRange (-2000) 2000 r.y && inRange (-2000) 2000 r.z &&
    inRange 0 2000 r.force && inRange (-40) 150 r.temp && decide (r.suggested ≤ 7)

/-- The judgement of a record that ends an exchange (R164). A record of the right length with a sound
check and FAULT set is a MODULE_FAULT miss, whatever its other fields. -/
def judgeReport (record : List Byte) : ReportJudged :=
  match reportOfBytes record with
  | none => .miss
  | some r =>
    if byteSum record ≠ 0#8 then .miss
    else if r.fault then .moduleFault
    else if r.inRanges then .good r
    else .miss

/-! ## Geometry record -/

/-- The fields of a geometry record of 29 bytes. -/
def geometryOfBytes : List Byte → Option Geometry
  | [a0, a1, b0, b1, c0, c1, d0, d1, e0, e1, f0, f1, g0, g1, h0, h1, i0, i1, j0, j1, k0, k1,
     l0, l1, m0, m1, n0, n1, o0] =>
    some { hip := ⟨⟨intOf2 a0 a1, intOf2 b0 b1⟩, ⟨intOf2 c0 c1, intOf2 d0 d1⟩,
                   ⟨intOf2 e0 e1, intOf2 f0 f1⟩, ⟨intOf2 g0 g1, intOf2 h0 h1⟩⟩,
           cx := intOf2 i0 i1, cy := intOf2 j0 j1, cz := intOf2 k0 k1,
           stand := intOf2 l0 l1, crouch := intOf2 m0 m1,
           widening := natOfBytes [n0, n1], critical := natOfBytes [o0] }
  | _ => none

def hipInRange (p : Pair) : Bool := inRange (-600) 600 p.x && inRange (-600) 600 p.y

/-- R4: every field within its range, and crouch height greater than stand height. -/
def Geometry.inRanges (g : Geometry) : Bool :=
  hipInRange g.hip.lf && hipInRange g.hip.rf && hipInRange g.hip.lh && hipInRange g.hip.rh &&
    inRange (-200) 200 g.cx && inRange (-200) 200 g.cy && inRange (-100) 200 g.cz &&
    inRange (-700) (-200) g.stand && inRange (-400) (-100) g.crouch && inRange 0 150 g.widening &&
    inRange 0 100 g.critical && decide (g.stand < g.crouch)

def pairBytes (p : Pair) : List Byte := bytesOfInt2 p.x ++ bytesOfInt2 p.y

/-- The 30 bytes an ASK returns: the record and the written mark. -/
def geometryBytes (g : Geometry) (written : Bool) : List Byte :=
  pairBytes g.hip.lf ++ pairBytes g.hip.rf ++ pairBytes g.hip.lh ++ pairBytes g.hip.rh ++
    bytesOfInt2 g.cx ++ bytesOfInt2 g.cy ++ bytesOfInt2 g.cz ++ bytesOfInt2 g.stand ++
    bytesOfInt2 g.crouch ++ bytesOfInt2 g.widening ++ bytesOfNat 1 g.critical.toNat ++
    [if written then 1 else 0]

/-! ## Zone entry -/

/-- R111: the limits on the numbers of an entry. The limit of three bytes is always in range. -/
def ZoneParams.inRanges (p : ZoneParams) : Bool :=
  inRange 50 400 p.stride && inRange 40 250 p.clearance && inRange 20 200 p.threshold &&
    inRange 0 150 p.swayLimit && decide (p.maxReplace ≤ 15) &&
    decide (5 ≤ p.slipThreshold ∧ p.slipThreshold ≤ 60) && p.order.permutation

/-- A zone entry of 17 bytes whose every field is in range (R110, R111); none otherwise. -/
def zoneOfBytes : List Byte → Option ZoneEntry
  | [v, l0, l1, l2, s, t0, t1, c, o1, o2, o3, o4, m, w, r, d, x] => do
    let surface ← Surface.ofCode? s.toNat
    let select ← SelectMode.ofCode? x.toNat
    let a ← Leg.ofIndex? o1.toNat
    let b ← Leg.ofIndex? o2.toNat
    let e ← Leg.ofIndex? o3.toNat
    let f ← Leg.ofIndex? o4.toNat
    let params : ZoneParams :=
      { surface := surface, stride := natOfBytes [t0, t1], clearance := natOfBytes [c],
        order := ⟨a, b, e, f⟩, threshold := natOfBytes [m], swayLimit := natOfBytes [w],
        maxReplace := r.toNat, slipThreshold := d.toNat, select := select }
    if v.toNat ≤ 1 ∧ params.inRanges = true then
      some { valid := v.toNat == 1, limit := natOfBytes [l0, l1, l2], params := params }
    else none
  | _ => none

def legOrderBytes (o : LegOrder) : List Byte :=
  [legByte (some o.first), legByte (some o.second), legByte (some o.third), legByte (some o.fourth)]

/-- The 17 bytes an ASK of a zone entry returns (R123). -/
def zoneBytes (e : ZoneEntry) : List Byte :=
  [if e.valid then 1 else 0] ++ bytesOfNat 3 e.limit ++ [e.params.surface.code] ++
    bytesOfInt2 e.params.stride ++ bytesOfNat 1 e.params.clearance.toNat ++ legOrderBytes e.params.order ++
    bytesOfNat 1 e.params.threshold.toNat ++ bytesOfNat 1 e.params.swayLimit.toNat ++
    bytesOfNat 1 e.params.maxReplace ++ bytesOfNat 1 e.params.slipThreshold ++ [e.params.select.code]

/-! ## Foothold entry -/

/-- `n` alternates of four bytes each, and what follows them. -/
def alternatesOfBytes : Nat → List Byte → Option (List Pair × List Byte)
  | 0, rest => some ([], rest)
  | n + 1, a0 :: a1 :: b0 :: b1 :: rest =>
    match alternatesOfBytes n rest with
    | some (ps, rest') => some (⟨intOf2 a0 a1, intOf2 b0 b1⟩ :: ps, rest')
    | none => none
  | _ + 1, _ => none

/-- One entry as sent, unclamped, and the bytes after it; none for an alternate count of 4 or more
(R94) and for bytes that end too soon (R193). The in-use mark sent is not examined. -/
def entryOfBytes : List Byte → Option (Foothold × List Byte)
  | tag :: n :: flags :: x0 :: x1 :: y0 :: y1 :: z0 :: z1 :: c0 :: c1 :: rest =>
    if n.toNat ≤ 3 then
      match alternatesOfBytes n.toNat rest with
      | some (alts, rest') =>
        some ({ tag := tag.toNat, dx := intOf2 x0 x1, dy := intOf2 y0 y1, dz := intOf2 z0 z1,
                alternates := alts,
                contact := if flags.getLsbD 0 then some (natOfBytes [c0, c1] : Int) else none,
                inUse := false }, rest')
      | none => none
    else none
  | _ => none

/-- `n` entries one after another; bytes beyond them are not examined (R193). -/
def entriesOfBytes : Nat → List Byte → Option (List Foothold)
  | 0, _ => some []
  | n + 1, bs =>
    match entryOfBytes bs with
    | some (e, rest) =>
      match entriesOfBytes n rest with
      | some es => some (e :: es)
      | none => none
    | none => none

def clampAlternate (p : Pair) : Pair := ⟨clamp (-100) 100 p.x, clamp (-100) 100 p.y⟩

/-- R94: the values the queue stores. -/
def Foothold.clamped (e : Foothold) : Foothold :=
  { e with dx := clamp (-200) 200 e.dx, dy := clamp (-200) 200 e.dy, dz := clamp (-300) 300 e.dz,
           alternates := e.alternates.map clampAlternate, contact := e.contact.map (clamp 20 400) }

/-- A foothold entry as a readout carries it; the contact field of an entry without override is sent 0
(DESIGN CHOICE, log entry 6). -/
def entryBytes (e : Foothold) : List Byte :=
  [BitVec.ofNat 8 e.tag, BitVec.ofNat 8 e.alternates.length,
   (if e.contact.isSome then 1#8 else 0#8) ||| (if e.inUse then 2#8 else 0#8)] ++
    bytesOfInt2 e.dx ++ bytesOfInt2 e.dy ++ bytesOfInt2 e.dz ++ bytesOfInt2 (e.contact.getD 0) ++
    (e.alternates.map pairBytes).flatten

/-- A last tag in two bytes: 0 for none or 1 for present, then the tag; the byte after a 0 is sent 0 (DESIGN CHOICE,
log entry 54). -/
def tagBytes : Option Nat → List Byte
  | some t => [1, BitVec.ofNat 8 t]
  | none => [0, 0]

/-- The content of a foothold queue's item (R107). -/
def queueBytes (q : FootholdQueue) : List Byte :=
  [BitVec.ofNat 8 q.entries.length] ++ (q.entries.map entryBytes).flatten ++
    tagBytes q.consumed ++ tagBytes q.discarded

/-! ## Host frames -/

/-- Address bytes by kind: two for ASK, TELL and NOTE, one for DO and ANSWER, none otherwise (R189). -/
def addressLength (kind : Byte) : Nat :=
  if kind = 1 ∨ kind = 2 ∨ kind = 5 then 2 else if kind = 3 ∨ kind = 4 then 1 else 0

/-- The whole length of the frame in progress, once its length and kind have been read. -/
def frameLength? : List Byte → Option Nat
  | _ :: len :: kind :: _ => some (4 + addressLength kind + len.toNat + 2)
  | _ => none

/-- A frame as it goes on the line: start byte, header, payload, CRC least significant byte first. -/
def encodeFrame (kind seq : Byte) (address payload : List Byte) : List Byte :=
  let covered := BitVec.ofNat 8 payload.length :: kind :: seq :: (address ++ payload)
  0xA5#8 :: covered ++ bytesOfNat 2 (crc16 covered).toNat

/-- The frame that complete bytes spell, if they are one whole frame with an agreeing CRC (R189). -/
def decodeFrame (bytes : List Byte) : Option Frame :=
  match bytes with
  | start :: len :: kind :: seq :: rest =>
    let a := addressLength kind
    if start = 0xA5#8 ∧ len.toNat ≤ 200 ∧ rest.length = a + len.toNat + 2 ∧
        (crc16 (len :: kind :: seq :: rest.take (a + len.toNat))).toNat = natOfBytes (rest.drop (a + len.toNat)) then
      some { kind := kind, seq := seq, address := rest.take a, payload := (rest.drop a).take len.toNat }
    else none
  | _ => none

/-- Marks of a margin: bit 0 NOT_READY, bit 1 DEGENERATE. -/
def Margin.marks (m : Margin) : Byte := (if m.notReady then 1#8 else 0#8) ||| (if m.degenerate then 2#8 else 0#8)

/-- The payload of a note, for the kinds whose bytes the spec gives: STEP, REFLEX and FAULT. -/
def Note.payload? : Note → Option (List Byte)
  | .step l attempts m =>
    some ([legByte l, BitVec.ofNat 8 attempts] ++ bytesOfInt2 m.value ++ [m.marks])
  | .reflex event trigger l k depth =>
    some [event.code, BitVec.ofNat 8 trigger.code, legByte l, BitVec.ofNat 8 ((k.map Kind.code).getD 0),
      BitVec.ofNat 8 depth]
  | .fault code l trigger =>
    some [code.code, legByte l, BitVec.ofNat 8 ((trigger.map Trigger.code).getD 0)]
  | _ => none

/-- The bytes of an ANSWER or NOTE as sent, where the spec gives the payload's layout. -/
def Transmitter.bytes? : Transmitter → Option (List Byte)
  | .free => none
  | .answer a =>
    match a.payload with
    | .bytes b => some (encodeFrame 4 a.seq [a.status.code] b)
    | .item _ => none
  | .note n lost =>
    match n.payload? with
    | some b => some (encodeFrame 5 0 [BitVec.ofNat 8 n.kind, if lost then 1 else 0] b)
    | none => none

/-- R197: two bytes, bits 9 to 15 clear. -/
def maskOfBytes : List Byte → Option (BitVec 16)
  | [b0, b1] => if (b1 ++ b0).toNat < 512 then some (b1 ++ b0) else none
  | _ => none

/-- R126: a start and a length with both in range and the window inside the store; bytes beyond them
are not examined. -/
def windowOfBytes : List Byte → Option (Nat × Nat)
  | s :: n :: _ => if s.toNat ≤ 63 ∧ n.toNat ≤ 16 ∧ s.toNat + n.toNat ≤ 64 then some (s.toNat, n.toNat) else none
  | _ => none

/-- DESIGN CHOICE, log entry 5: the spec gives the odometer's payload no layout. Four bytes, least
significant first; any other length reads as no value. -/
def odometerOfBytes (bs : List Byte) : Option Int :=
  if bs.length = 4 then some (natOfBytes bs : Int) else none

/-- DESIGN CHOICE, log entry 5: a reflex table payload is two bytes, kind code and parameter. -/
def reflexItemOfBytes : List Byte → Option (Nat × Nat)
  | [k, p] => some (k.toNat, p.toNat)
  | _ => none

end Sys2Proof.Machine
end

