-- ==== Sys2Proof/Machine/Flags.lean ====
section
/-! DEFINITION. The figures and tests the rules read: surface figures, the zone in force, the stance
set, the settle test, thermal bands, the conditions that hold a walk. None of them changes State. -/

namespace Sys2Proof.Machine

/-! ## Figures -/

/-- R73: contact threshold, N. -/
def Surface.contact : Surface → Int
  | .solid => 60
  | .grating => 80
  | .stair => 60
  | .spill => 100

/-- R73: horizontal tolerance, mm. -/
def Surface.tolerance : Surface → Int
  | .grating => 8
  | _ => 15

/-- R73: probe step, mm. -/
def Surface.probe : Surface → Int
  | .solid => 10
  | .grating => 5
  | .stair => 0
  | .spill => 15

/-- R132: the contact threshold divided by 4 and truncated. -/
def Surface.unloadLimit (c : Surface) : Int := c.contact.tdiv 4

/-- R178: the band of a temperature. -/
def band (t : Int) : Nat := if t < 70 then 0 else if t < 85 then 1 else if t < 95 then 2 else 3

/-- R179: the fall point of a level; level 0 has none. -/
def fallPoint : Nat → Option Int
  | 1 => some 65
  | 2 => some 80
  | 3 => some 90
  | _ => none

/-- R5: the transitions of the body state. -/
def BodyState.mayBecome : BodyState → BodyState → Bool
  | .rest, .rising => true
  | .rising, .stand => true
  | .rising, .lowering => true
  | .stand, .walk => true
  | .walk, .stand => true
  | .walk, .hold => true
  | .hold, .walk => true
  | .hold, .stand => true
  | .stand, .hold => true
  | .unsettled, .stand => true
  | .stand, .recover => true
  | .walk, .recover => true
  | .hold, .recover => true
  | .unsettled, .recover => true
  | .recover, .recover => true
  | .recover, .stand => true
  | .recover, .walk => true
  | .recover, .hold => true
  | .recover, .unsettled => true
  | .stand, .lowering => true
  | .hold, .lowering => true
  | .unsettled, .lowering => true
  | .lowering, .rest => true
  | _, _ => false

/-- The body states in which stance reports are taken (R129) and, once a survey has ended, TIP is
tested (R39). -/
def BodyState.standing : BodyState → Bool
  | .stand => true
  | .walk => true
  | .hold => true
  | .recover => true
  | .unsettled => true
  | _ => false

def Origin.body : Origin → BodyState
  | .stand => .stand
  | .hold => .hold
  | .unsettled => .unsettled

/-- R86: the origin a body state gives a reseat procedure. -/
def BodyState.origin : BodyState → Origin
  | .hold => .hold
  | .unsettled => .unsettled
  | _ => .stand

/-! ## Reading the state -/

namespace State

def link (s : State) (l : Leg) : Link := s.llc.get l
def cmdOf (s : State) (l : Leg) : LegCmd := s.ssq.cmd.get l
def modeOf (s : State) (l : Leg) : LegMode := (s.cmdOf l).mode
def verifiedOf (s : State) (l : Leg) : Bool := s.ssq.verified.get l
def slipOf (s : State) (l : Leg) : SlipLeg := s.slm.legs.get l
def queueOf (s : State) (l : Leg) : FootholdQueue := s.fhq.get l
def inStance (s : State) (l : Leg) : Bool := s.scu.stance.get l

/-- A leg that is not withdrawn. -/
def admitted (s : State) (l : Leg) : Bool := !(s.link l).withdrawn
def linkOk (s : State) (l : Leg) : Bool := (s.link l).link == .ok

/-- The foot's last reported position. DESIGN CHOICE, log entry 8: free for a leg that has never
reported. -/
def footOf (s : State) (l : Leg) : Point :=
  match (s.link l).last with
  | some r => ⟨r.x, r.y, r.z⟩
  | none => ⟨Config.unreportedFoot 0 l.index, Config.unreportedFoot 1 l.index, Config.unreportedFoot 2 l.index⟩

/-- Whether the force of the leg's last report is at or above a threshold; no report is not. -/
def loadedAt (s : State) (threshold : Int) (l : Leg) : Bool :=
  match (s.link l).last with
  | some r => decide (threshold ≤ r.force)
  | none => false

/-- Whether the z of the leg's last report lies within 10 mm of a height. -/
def nearHeight (s : State) (z : Int) (l : Leg) : Bool :=
  match (s.link l).last with
  | some r => decide ((r.z - z).natAbs ≤ 10)
  | none => false

/-- R109: the parameters of the zone in force, or the built-in defaults. -/
def zone (s : State) : ZoneParams :=
  match s.ztb.entries[s.ztb.inForce]? with
  | some e => e.params
  | none => .default

/-- The contact threshold of the surface class in force (R8, R86, R156). -/
def contactInForce (s : State) : Int := s.zone.surface.contact

/-- R27: the four conditions of the stance set. -/
def stanceDerived (s : State) : PerLeg Bool :=
  .tab fun l => s.modeOf l == .stance && s.verifiedOf l && s.linkOk l && s.admitted l

def stanceList (s : State) (legs : List Leg) : List Leg := legs.filter s.inStance

/-- R54: the last report lies within 5 mm of the commanded target on each axis. -/
def onTarget (s : State) (l : Leg) : Bool :=
  let f := s.footOf l
  let t := (s.cmdOf l).target
  decide ((f.x - t.x).natAbs ≤ 5 ∧ (f.y - t.y).natAbs ≤ 5 ∧ (f.z - t.z).natAbs ≤ 5)

/-- R54: every leg of the stance set stands on its target; an empty set is settled (R149). -/
def settled (s : State) : Bool := Leg.all.all fun l => !s.inStance l || s.onTarget l

/-- R29: the tilt check. -/
def tiltOk (s : State) : Bool := decide (2048 ≤ -s.scu.dbar.dz)

/-- R39: the four parts of the TIP condition. -/
def tipHolds (s : State) : Bool :=
  decide (s.scu.margin.value < s.pc.geom.critical) || decide ((s.stanceList Leg.all).length < 3) ||
    !s.tiltOk || s.scu.tipStale

/-- R39: the states in which the condition is tested. -/
def tipTested (s : State) : Bool :=
  s.pc.body.standing && !(s.pc.body == .unsettled && s.scu.survey)

/-- R46: a leg other than this one is in SWING or PLACING. -/
def otherInAir (s : State) (l : Leg) : Bool :=
  Leg.all.any fun k => k != l && (s.modeOf k == .swing || s.modeOf k == .placing)

/-- R181: the greatest of the four legs' derate levels. -/
def greatestLevel (s : State) : Nat :=
  max (max s.tdu.legs.lf.level s.tdu.legs.rf.level) (max s.tdu.legs.lh.level s.tdu.legs.rh.level)

/-- R181: raised to 1 by external hot if it is 0. -/
def bodyLevel (s : State) : Nat :=
  if s.greatestLevel = 0 ∧ s.tdu.external = true then 1 else s.greatestLevel

/-- R56, R48, R65: no leg withdrawn, every link OK, every leg in STANCE and verified. -/
def legsReady (s : State) : Bool :=
  Leg.all.all fun l => s.admitted l && s.linkOk l && s.modeOf l == .stance && s.verifiedOf l

/-- R7: the rise target of a leg. -/
def riseTarget (s : State) (l : Leg) : Point :=
  let g := s.pc.geom
  ⟨(g.hip.get l).x, (g.hip.get l).y + outward l * g.widening, g.stand⟩

/-- R58: the nominal target of a lift, from the geometry record and the latched values. -/
def nominalTarget (s : State) (l : Leg) : Point :=
  let g := s.pc.geom
  ⟨(g.hip.get l).x + s.ssq.dir.sign * s.ssq.latched.effective.tdiv 2,
   (g.hip.get l).y + outward l * g.widening, g.stand⟩

/-- R58: the latched clearance, on STAIR at least 200. -/
def liftClearance (s : State) : Int :=
  match s.ssq.latched.surface with
  | .stair => max s.ssq.latched.clearance 200
  | _ => s.ssq.latched.clearance

/-- R86: the legs that fail the check, in polygon order. -/
def reseatFailing (s : State) : List Leg :=
  Leg.polygon.filter fun l =>
    s.admitted l && (!s.verifiedOf l || !s.loadedAt s.contactInForce l)

/-- R52: the conditions under which a walk holds at a boundary. -/
def mustHold (s : State) : Bool :=
  !s.rxu.pending.isEmpty || decide (3 ≤ s.tdu.body) || s.scu.attStale

/-- R141: an entry of the pending list may be taken now. -/
def mayTakePending (s : State) : Bool :=
  s.rxu.re1 && s.pc.body.standing && !s.pc.protect && s.rxu.crouch == .clear && !s.rxu.pending.isEmpty

/-- R137: a maskable cause raised against the leg would be taken at once. -/
def takesAtOnce (s : State) (l : Leg) : Bool :=
  s.pc.body.standing && s.admitted l && !s.pc.protect && s.rxu.crouch == .clear && s.rxu.re1

/-- No TIP has just been taken and the protect latch is clear: the operation under way goes on. -/
def undisturbed (s : State) : Bool := !s.pc.protect && s.rxu.crouch == .clear

/-- R191, R193: the HLI may take a frame: FRAMED, the answer slot empty, no DO RESET taken. -/
def mayTakeFrame (s : State) : Bool :=
  s.hli.link == .framed && s.hli.slot.isNone && !s.hli.resetTaken

end State

end Sys2Proof.Machine
end

