-- ==== Sys2Proof/Machine/Support.lean ====
section
/-! DEFINITION. The arithmetic of the support computation (02): vertex lists, margins, the slope shift,
the sway step, and the recomputation of R26 without its TIP test. -/

namespace Sys2Proof.Machine

/-! ## Margin over an ordered set of feet -/

/-- A vertex equal to the vertex before it is dropped (R32). -/
def dropRepeats : List Pair → List Pair
  | [] => []
  | a :: rest =>
    match dropRepeats rest with
    | [] => [a]
    | b :: more => if a = b then a :: more else a :: b :: more

/-- R32: repeats dropped, and the last vertex where it equals the first. -/
def vertexList (feet : List Pair) : List Pair :=
  let kept := dropRepeats feet
  match kept with
  | [] => []
  | [a] => [a]
  | a :: rest => if rest.getLast? = some a then a :: rest.dropLast else a :: rest

/-- Neighbours in the list, the last with the first among them (R33, R34). -/
def edges : List Pair → List (Pair × Pair)
  | [] => []
  | a :: rest => (a :: rest).zip (rest ++ [a])

def cross2 (a b : Pair) : Int := a.x * b.y - b.x * a.y

/-- R33: twice the signed area. -/
def doubleArea (vs : List Pair) : Int := ((edges vs).map fun e => cross2 e.1 e.2).sum

/-- R33: fewer than three vertices, or an area that is 0 or negative. -/
def isDegenerate (vs : List Pair) : Bool := decide (vs.length < 3) || decide (doubleArea vs ≤ 0)

/-- R34: the signed distance from P to the edge, floored. -/
def edgeDistance (p : Pair) (e : Pair × Pair) : Int :=
  let ex := e.2.x - e.1.x
  let ey := e.2.y - e.1.y
  let wx := p.x - e.1.x
  let wy := p.y - e.1.y
  (ex * wy - ey * wx).fdiv (floorRoot (ex * ex + ey * ey).toNat : Int)

/-- R34: the least distance over the edges, clamped. -/
def leastDistance (p : Pair) : List (Pair × Pair) → Int
  | [] => -1023
  | [e] => edgeDistance p e
  | e :: rest => min (edgeDistance p e) (leastDistance p rest)

/-- R33, R34: the margin of a vertex list. -/
def marginOf (p : Pair) (vs : List Pair) : Int :=
  if isDegenerate vs then -1023 else clamp (-1023) 1023 (leastDistance p (edges vs))

/-- The margin of a vertex list, or -1023 while the margins are not ready (R35, R36). -/
def publishMargin (notReady : Bool) (p : Pair) (vs : List Pair) : Margin :=
  { value := if notReady then -1023 else marginOf p vs, notReady := notReady, degenerate := isDegenerate vs }

namespace State

/-- R32: the vertices of the legs of the stance set that satisfy a test, in polygon order. -/
def vertices (s : State) (keep : Leg → Bool) : List Pair :=
  vertexList (((s.stanceList Leg.polygon).filter keep).map fun l => ⟨(s.footOf l).x, (s.footOf l).y⟩)

/-- R36: the predicted margin without a leg; it changes no state. -/
def predictedMargin (s : State) (l : Leg) : Margin :=
  publishMargin s.scu.margin.notReady s.scu.p (s.vertices fun k => k != l)

/-- R36: the record of the last predicted margin asked. -/
def recordPredicted (s : State) (l : Leg) : State :=
  { s with scu.predicted := s.predictedMargin l, scu.predictedLeg := some l }

end State

/-! ## Sway step -/

/-- R37: the mean of the vertices, each sum truncated toward zero. -/
def centroid (vs : List Pair) : Pair :=
  ⟨(vs.map Pair.x).sum.tdiv vs.length, (vs.map Pair.y).sum.tdiv vs.length⟩

/-- R37: one axis of the raw step, cut against the sway limit. At or beyond the limit a step that
increases the magnitude is cut to 0; otherwise a step that would pass it lands on it. -/
def cutAxis (acc limit raw : Int) : Int :=
  if limit ≤ acc.natAbs then
    if acc.natAbs < (acc + raw).natAbs then 0 else raw
  else if limit < acc + raw then limit - acc
  else if acc + raw < -limit then -limit - acc
  else raw

/-- R37: the cut step for a leg, or (0, 0) for a degenerate set or margins not ready. -/
def State.swayStep (s : State) (l : Leg) (limit : Int) : Pair :=
  let vs := s.vertices fun k => k != l
  if isDegenerate vs || s.scu.margin.notReady then Pair.zero
  else
    let c := centroid vs
    ⟨cutAxis s.scu.sway.x limit (clamp (-4) 4 (c.x - s.scu.p.x)),
     cutAxis s.scu.sway.y limit (clamp (-4) 4 (c.y - s.scu.p.y))⟩

/-! ## Recomputation -/

/-- R30: the slope shift on one axis, rounded to nearest with a half away from zero, then clamped. -/
def slopeShift (d h down : Int) : Int :=
  let mag : Int := ((d * h).natAbs + down.tdiv 2).tdiv down
  clamp (-1023) 1023 (if d < 0 then -mag else if d = 0 then 0 else mag)

/-- R28: the foot plane over the stance set. -/
def State.footPlane (s : State) : Int :=
  let legs := s.stanceList Leg.all
  if legs.isEmpty then s.pc.geom.stand else (legs.map fun l => (s.footOf l).z).sum.tdiv legs.length

/-- R28: the body height, at least 50. -/
def heightAbove (g : Geometry) (zf : Int) : Int := max (g.cz - zf) 50

/-- R26: foot plane and h, tilt check, slope shift, P, current margin; without the TIP test. While the tilt check fails
the slope shift keeps its last value (DESIGN CHOICE, log entry 60). -/
def State.recompute (s : State) : State :=
  let zf := s.footPlane
  let h := heightAbove s.pc.geom zf
  let down := -s.scu.dbar.dz
  let notReady := s.scu.margin.notReady && !(s.tiltOk && s.atp.slots.isSome)
  let shift := if s.tiltOk then ⟨slopeShift s.scu.dbar.dx h down, slopeShift s.scu.dbar.dy h down⟩ else s.scu.shift
  let p := if s.tiltOk then ⟨s.pc.geom.cx + shift.x + s.scu.sway.x, s.pc.geom.cy + shift.y + s.scu.sway.y⟩ else s.scu.p
  { s with scu.zf := zf, scu.h := h, scu.shift := shift, scu.p := p,
           scu.pHeld := !s.tiltOk && !s.scu.margin.notReady,
           scu.swayPublished := s.scu.sway,
           scu.margin := publishMargin notReady p (s.vertices fun _ => true) }

/-! ## Samples -/

/-- R22: the sum of squares lies within 9,437,184..26,214,400. -/
def sampleAccepted (v : Sample) : Bool :=
  inRange 9437184 26214400 (v.dx * v.dx + v.dy * v.dy + v.dz * v.dz)

/-- R23: the newest slot takes the sample; empty slots are all four filled with it. -/
def Slots.push (slots : Option Slots) (v : Sample) : Slots :=
  match slots with
  | some o => ⟨v, o.s0, o.s1, o.s2⟩
  | none => ⟨v, v, v, v⟩

/-- R23: the sum of the slots divided by 4, truncated, component by component. -/
def Slots.average (o : Slots) : Sample :=
  ⟨(o.s0.dx + o.s1.dx + o.s2.dx + o.s3.dx).tdiv 4, (o.s0.dy + o.s1.dy + o.s2.dy + o.s3.dy).tdiv 4,
   (o.s0.dz + o.s1.dz + o.s2.dz + o.s3.dz).tdiv 4⟩

end Sys2Proof.Machine
end

