-- ==== Sys2Proof/Machine/Ops.lean ====
section
/-! DEFINITION. The named operations over the blocks' state: notes, leg commands, pending entries, windows,
body states, zone lookup, latching, foothold queues, derate levels, and the passing of a millisecond. -/

namespace Sys2Proof.Machine

namespace State

/-! ## Notes -/

/-- R194, R188: a note in SYNC or masked off is discarded; into a full queue it is lost. -/
def postNote (s : State) (n : Note) : State :=
  match s.hli.link with
  | .sync => s
  | .framed =>
    if s.hli.mask.getLsbD (n.kind - 1) then
      if s.hli.notes.length < Config.noteQueueCapacity then { s with hli.notes := s.hli.notes ++ [n] }
      else { s with hli.lost := true }
    else s

/-- A FAULT note; the cause is none but for CAUSE_PENDING and OVERFLOW. -/
def postFault (s : State) (code : FaultCode) (leg : Option Leg) : State := s.postNote (.fault code leg none)

/-! ## Leg links -/

/-- R162: a command goes out; both timers start at 0 and the exchange awaits a report. -/
def sendCommand (s : State) (l : Leg) : State :=
  { s with llc := s.llc.modify l fun k =>
      { k with awaiting := true, sendWaiting := false, refresh := some 0, report := some 0,
               sent := some (commandRecord (s.cmdOf l)) } }

/-- R162: a change met while a report is awaited waits for the end of the exchange. -/
def handToLink (s : State) (l : Leg) : State :=
  if (s.link l).awaiting then { s with llc := s.llc.modify l fun k => { k with sendWaiting := true } }
  else s.sendCommand l

/-- R163: the exchange ends, and what waits goes out (DESIGN CHOICE, log entry 18: at the event's end). -/
def endExchange (s : State) (l : Leg) : State :=
  let s := { s with llc := s.llc.modify l fun k => { k with awaiting := false, report := none } }
  if (s.link l).sendWaiting then s.sendCommand l else s

/-! ## The pending cause list -/

/-- R138: no two entries with the same cause and leg. -/
def pendAdd (s : State) (c : Cause) (l : Leg) : State :=
  if ⟨c, l⟩ ∈ s.rxu.pending then s else { s with rxu.pending := s.rxu.pending ++ [⟨c, l⟩] }

/-- R139: the raising block tells that a level cause's condition has gone. -/
def tellGone (s : State) (c : Cause) (l : Leg) : State :=
  { s with rxu.pending := s.rxu.pending.filter fun e => decide (e ≠ ⟨c, l⟩) }

/-- R139: every edge entry leaves the list. -/
def removeEdges (s : State) : State :=
  { s with rxu.pending := s.rxu.pending.filter fun e => e.cause.level }

/-- R139: every entry against a leg leaves the list. -/
def removeLeg (s : State) (l : Leg) : State :=
  { s with rxu.pending := s.rxu.pending.filter fun e => decide (e.leg ≠ l) }

/-! ## Conditions and windows -/

/-- The SLIP condition ends, and the Reflex Unit is told. -/
def endSlip (s : State) (l : Leg) : State :=
  if (s.slipOf l).slip then
    tellGone { s with slm.legs := s.slm.legs.modify l fun k => { k with slip := false } } .slip l
  else s

/-- R169: the overload condition ends, and the Reflex Unit is told. -/
def endOverload (s : State) (l : Leg) : State :=
  if (s.link l).overload then
    tellGone { s with llc := s.llc.modify l fun k => { k with overload := false } } .overload l
  else s

/-- The window of a leg emptied; the low-force count is the caller's matter. -/
def emptyWindow (s : State) (l : Leg) : State :=
  { s with slm.legs := s.slm.legs.modify l fun k => { k with fill := 0, next := k.start, newest := none } }

/-- R133: a leg leaves the stance set. -/
def slmLeave (s : State) (l : Leg) : State :=
  endSlip { s.emptyWindow l with
    slm.legs := (s.emptyWindow l).slm.legs.modify l fun k => { k with lowForce := 0 } } l

/-- R133: at LOWERING, REST and RISING every SLIP condition ends and every low-force count is 0. -/
def endAllSlip (s : State) : State :=
  let s := Leg.all.foldl endSlip s
  { s with slm.legs := s.slm.legs.map fun k => { k with lowForce := 0 } }

/-! ## Leg commands -/

def setVerified (s : State) (l : Leg) (v : Bool) : State :=
  { s with ssq.verified := s.ssq.verified.set l v }

/-- R128: the commanded x or y changed. -/
def unsteady (s : State) (l : Leg) : State :=
  { s with slm.legs := s.slm.legs.modify l fun k => { k with steady := false, steadyTimer := some 0 } }

/-- What a change of the commanded mode does at once: the obstruct mark (R168), the contact-verified flag
(R47), the overload condition (R169). -/
def modeChanged (s : State) (l : Leg) (mode : LegMode) : State :=
  let s := { s with llc := s.llc.modify l fun k => { k with obstruct := false } }
  match mode with
  | .swing => s.setVerified l false
  | .limp => (s.setVerified l false).endOverload l
  | _ => s

/-- R45: a leg's commanded mode, target and clearance, clamped and handed to its link. The change of the
stance set that may follow (R27) is the caller's. -/
def setCmd (s : State) (l : Leg) (mode : LegMode) (target : Point) (clearance : Int) : State :=
  let old := s.cmdOf l
  let new : LegCmd := { mode := mode, target := clampPoint target, clearance := clearance }
  if new = old then s
  else
    let s := { s with ssq.cmd := s.ssq.cmd.set l new }
    let s := if new.target.x = old.target.x ∧ new.target.y = old.target.y then s else s.unsteady l
    let s := if mode = old.mode then s else s.modeChanged l mode
    s.handToLink l

/-- R46: a leg commanded into SWING or PLACING; the request is not carried out while another leg is in
either. -/
def airCmd (s : State) (l : Leg) (mode : LegMode) (target : Point) (clearance : Int) : State :=
  if s.otherInAir l then s else s.setCmd l mode target clearance

/-- The leg's commanded target and clearance, in another mode. -/
def setMode (s : State) (l : Leg) (mode : LegMode) : State :=
  s.setCmd l mode (s.cmdOf l).target (s.cmdOf l).clearance

/-- Another target, in the mode and with the clearance the leg has. -/
def setTarget (s : State) (l : Leg) (target : Point) : State :=
  s.setCmd l (s.modeOf l) target (s.cmdOf l).clearance

/-- Every leg in mode STANCE moved on the ground. -/
def moveStance (s : State) (move : Point → Point) : State :=
  Leg.all.foldl (fun s l => if s.modeOf l = .stance then s.setTarget l (move (s.cmdOf l).target) else s) s

/-! ## Body state -/

/-- R5: a change of the body state, made only where the table allows it, with its BODY note. Leaving
UNSETTLED ends the survey (R41); LOWERING, REST and RISING end the SLIP conditions (R133) and keep the
TIP raised mark clear (R40). -/
def setBody (s : State) (b : BodyState) (reason : BodyReason) : State :=
  let old := s.pc.body
  if old.mayBecome b then
    let s := { s with pc.body := b }
    let s := if b = .unsettled then s else { s with scu.survey := false, scu.surveyTimer := none }
    let s := if b.standing then s else endAllSlip { s with scu.tipRaised := false }
    if b = old then s else s.postNote (.body old b reason)
  else s

/-! ## Zone table -/

end State

/-- R114: the first valid entry whose limit is at or above the odometer, or 255. -/
def lookupIn (entries : List ZoneEntry) (odometer : Nat) : Nat :=
  match entries.findIdx? fun e => e.valid && decide (odometer ≤ e.limit) with
  | some i => i
  | none => Config.defaultsIndex

namespace State

/-- R115: a lookup, with its ZONE note where the index changes. -/
def zoneLookup (s : State) (reason : ZoneReason) : State :=
  let old := s.ztb.inForce
  let new := lookupIn s.ztb.entries s.ssq.odometer
  if new = old then s
  else postNote { s with ztb.inForce := new } (.zone old new s.ssq.odometer reason)

/-! ## Latching -/

/-- R51: the step parameters and the body derate level, and the effective stride they give. -/
def latchStep (s : State) : State :=
  let z := s.zone
  { s with ssq.latched :=
      { stride := z.stride, clearance := z.clearance, threshold := z.threshold, swayLimit := z.swayLimit,
        maxReplace := z.maxReplace, surface := z.surface, derate := s.tdu.body,
        effective := (z.stride * (4 - (s.tdu.body : Int))).tdiv 4 } }

/-- R50: the leg order of the zone in force, reversed for BACKWARD. -/
def latchOrder (s : State) : State := { s with ssq.order := s.zone.order.walked s.ssq.dir }

/-! ## Derate levels -/

/-- R181: the body level formed again, with its HEAT note where it changes. -/
def reformLevel (s : State) (reason : HeatReason) : State :=
  let old := s.tdu.body
  let new := s.bodyLevel
  if new = old then s
  else postNote { s with tdu.body := new }
    (.heat old new (s.tdu.legs.map ThermalLeg.level) s.tdu.external reason)

def setLevel (s : State) (l : Leg) (level : Nat) : State :=
  reformLevel { s with tdu.legs := s.tdu.legs.modify l fun k => { k with level := level, hold := some 0 } } .leg

/-- R179: the fall test, on the last temperature. -/
def levelFall (s : State) (l : Leg) : State :=
  let k := s.tdu.legs.get l
  match k.hold, k.last, fallPoint k.level with
  | none, some t, some f => if t ≤ f then s.setLevel l (k.level - 1) else s
  | _, _, _ => s

/-- R178: the temperature of a taken report. -/
def thermalReport (s : State) (l : Leg) (t : Int) : State :=
  let s := { s with tdu.legs := s.tdu.legs.modify l fun k => { k with last := some t } }
  let s := if (s.tdu.legs.get l).level < band t then s.setLevel l (band t) else s
  s.levelFall l

/-! ## Foothold queues -/

/-- The head of a leg's queue. -/
def headOf (s : State) (l : Leg) : Option Foothold := (s.queueOf l).entries.head?

/-- R101: the head marked in use. -/
def markHead (s : State) (l : Leg) : State :=
  { s with fhq := s.fhq.modify l fun q =>
      match q.entries with
      | e :: rest => { q with entries := { e with inUse := true } :: rest }
      | [] => q }

/-- R104: the entry in use unmarked and kept at the head. -/
def unmarkInUse (s : State) : State :=
  { s with fhq := s.fhq.map fun q =>
      match q.entries with
      | e :: rest => { q with entries := { e with inUse := false } :: rest }
      | [] => q }

/-- R102: the entry in use leaves as consumed. -/
def consumeHead (s : State) (l : Leg) : State :=
  { s with fhq := s.fhq.modify l fun q =>
      match q.entries with
      | e :: rest => { q with entries := rest, consumed := some e.tag }
      | [] => q }

/-- R103: the entry in use leaves as discarded. -/
def discardHead (s : State) (l : Leg) : State :=
  { s with fhq := s.fhq.modify l fun q =>
      match q.entries with
      | e :: rest => { q with entries := rest, discarded := some e.tag }
      | [] => q }

/-! ## A millisecond -/

end State

/-- One millisecond on a running timer, which stands at its period until its expiry is commanded. -/
def tickTimer (period : Nat) (t : Timer) : Timer := t.map fun n => min period (n + 1)

/-- R18, R146: the timers of walking, placing and reflexes stand still under the protect latch. -/
def tickWhile (running : Bool) (period : Nat) (t : Timer) : Timer :=
  if running then tickTimer period t else t

/-- The period of the phase timer (R57, R59, R62, R64). -/
def Phase.period : Phase → Nat
  | .swing => 3000
  | _ => 2000

/-- The period of the calibration timer (R171). -/
def CalibState.period : CalibState → Nat
  | .settle => 250
  | _ => 3000

/-- DESIGN CHOICE, log entry 3: what a millisecond does by itself. Running timers count; their expiries are
commands of their own. -/
def State.tick (s : State) : State :=
  let live := !s.pc.protect
  { s with
    pc.riseTimer := tickTimer 4000 s.pc.riseTimer,
    pc.loweringTimer := tickTimer 4000 s.pc.loweringTimer,
    atp.since := countUp 65535 s.atp.since,
    scu.surveyTimer := tickTimer 100 s.scu.surveyTimer,
    ssq.phaseTimer := tickWhile live s.ssq.phase.period s.ssq.phaseTimer,
    pls.placeTimer := tickWhile live 1000 s.pls.placeTimer,
    pls.reswingTimer := tickWhile live 3000 s.pls.reswingTimer,
    rxu.stageTimer := tickWhile live 1000 s.rxu.stageTimer,
    rxu.liftTimer := tickWhile live 3000 s.rxu.liftTimer,
    slm.legs := s.slm.legs.map fun k => { k with steadyTimer := tickTimer 1000 k.steadyTimer },
    llc := s.llc.map fun k =>
      { k with refresh := tickTimer 5 k.refresh, report := tickTimer 2 k.report,
               calibTimer := tickTimer k.calib.period k.calibTimer },
    tdu.legs := s.tdu.legs.map fun k => { k with hold := tickTimer 30000 k.hold } }

end Sys2Proof.Machine
end

