-- ==== Sys2Proof/Machine/Tip.lean ====
section
/-! DEFINITION. The TIP test and what follows it (R39, R40, R154, R155), the protect latch (R17, R18), the
overflow of the context stack (R158), and the taking of a reflex's place (R69, R142, R143). -/

namespace Sys2Proof.Machine

namespace State

/-! ## Tests of the TIP condition -/

/-- R40: the test, with what raising TIP does. DESIGN CHOICE, log entry 37: in an untested state the
published condition keeps its last tested value. -/
def tipTestWith (raise : State → State) (s : State) : State :=
  if s.tipTested then
    if s.tipHolds then
      if s.scu.tipRaised then { s with scu.tipCondition := true }
      else raise { s with scu.tipCondition := true, scu.tipRaised := true }
    else { s with scu.tipCondition := false, scu.tipRaised := false }
  else { s with scu.tipRaised := false }

/-- R27, R133: the stance set derived again; where it changed, the windows of the legs that left are
emptied, the SCU recomputes, and the test is made. -/
def stanceUpdateWith (test : State → State) (s : State) : State :=
  let new := s.stanceDerived
  if new = s.scu.stance then s
  else
    let left := Leg.all.filter fun l => s.inStance l && !new.get l
    test (left.foldl slmLeave { s with scu.stance := new }).recompute

/-! ## The protect latch -/

/-- R154: TIP under the protect latch. -/
def heldTip (s : State) : State :=
  postNote { s with rxu.dropped := countUp 255 s.rxu.dropped }
    (.reflex .held .tip none none s.rxu.stack.length)

/-- R18: one leg held at its present target; each leg's leaving the stance set is an event of its own
(DESIGN CHOICE, log entry 12). -/
def holdLeg (s : State) (l : Leg) : State :=
  match s.modeOf l with
  | .stance => (s.setMode l .hold).stanceUpdateWith (tipTestWith heldTip)
  | .swing => (s.setMode l .hold).stanceUpdateWith (tipTestWith heldTip)
  | .placing => (s.setMode l .hold).stanceUpdateWith (tipTestWith heldTip)
  | _ => s

/-- R17, R18: the latch set, with its FAULT note, and every leg held. -/
def setProtect (s : State) : State :=
  if s.pc.protect then s
  else Leg.all.foldl holdLeg (postFault { s with pc.protect := true } .protect none)

/-- R158: a reflex that finds four contexts on the stack is not taken. -/
def overflow (s : State) (t : Trigger) (l : Option Leg) : State :=
  setProtect (postNote { s with rxu.dropped := countUp 255 s.rxu.dropped } (.fault .overflow l (some t)))

/-! ## Taking a reflex's place -/

/-- R143: the re-place attempts of the placement that runs, 0 for none. An exhausted placement has ended when its
PLACE_FAIL is taken, so 0 is recorded there (DESIGN CHOICE, log entry 53). -/
def attemptsNow (s : State) : Nat := if s.pls.placement.isSome then s.pls.attempt else 0

/-- R143: the context of the activity under way. -/
def currentContext (s : State) : Context :=
  match s.rxu.running with
  | some r => .recover r
  | none =>
    if s.pls.reseat then
      .reseat s.pls.origin s.pls.pass s.ssq.count s.ssq.dir s.ssq.next s.attemptsNow
    else
      match s.pc.body with
      | .walk =>
        match s.ssq.phase with
        | .pause => .walk none 1 .pause s.ssq.count s.ssq.dir 0
        | phase => .walk s.ssq.stepping s.ssq.index phase s.ssq.count s.ssq.dir s.attemptsNow
      | .hold => .hold s.ssq.next s.ssq.count s.ssq.dir
      | .unsettled => .unsettled
      | _ => .stand

/-- R84: the placement cleared with its timers. -/
def clearPlacement (s : State) : State :=
  { s with pls.placement := none, pls.attempt := 0, pls.attemptTarget := Point.zero, pls.entry := none,
           pls.placeTimer := none, pls.reswingTimer := none }

/-- The phase IDLE and no stepping leg. -/
def idlePhase (s : State) : State :=
  { s with ssq.phase := .idle, ssq.stepping := none, ssq.phaseTimer := none }

/-- R69, R84, R90, R150: the activity under way stands aside, its legs left as it had them. DESIGN CHOICE, log
entries 13, 52 and 63: the stepping leg reads none from here, and the reseat set is empty. -/
def standAside (s : State) : State :=
  let s := (s.idlePhase.clearPlacement).unmarkInUse
  { s with ssq.stopMark := false, pls.reseat := false, pls.reseatSet := [], pls.reseatLeg := none,
           rxu.stageTimer := none, rxu.liftTimer := none }

/-- R142, steps 2 to 6: the context pushed, RE1 0, the TAKEN note, the body RECOVER. -/
def enterReflex (s : State) (r : Running) : State :=
  let stack := s.currentContext :: s.rxu.stack
  let s := s.standAside
  let s := { s with rxu.stack := stack, rxu.re1 := false, rxu.running := some r }
  (s.postNote (.reflex .taken r.trigger r.leg (some r.kind) stack.length)).setBody .recover .reflex

/-! ## CROUCH -/

/-- R154. A CROUCH has no parameter and no retract target; it records 0 and (0, 0, 0) (DESIGN CHOICE, log
entry 28). -/
def crouchReflex : Running :=
  { kind := .crouch, trigger := .tip, leg := none, param := 0, retract := Point.zero, stage := .crouch, lift := 0 }

/-- R155: how the crouch commands one leg. -/
def crouchLeg (s : State) (l : Leg) : State :=
  let z := s.pc.geom.crouch
  match s.modeOf l with
  | .stance => s.setTarget l { (s.cmdOf l).target with z := z }
  | .swing => s.airCmd l .placing { s.footOf l with z := z } (s.cmdOf l).clearance
  | .placing => s.airCmd l .placing { s.footOf l with z := z } (s.cmdOf l).clearance
  | _ => s

/-- R155: the CROUCH begins; its set of crouching legs is fixed. -/
def beginCrouch (s : State) : State :=
  let s := Leg.all.foldl crouchLeg s
  { s with rxu.crouch := .running, rxu.stageTimer := some 0,
           rxu.crouching := .tab fun l =>
             s.admitted l && s.linkOk l && (s.modeOf l == .stance || s.modeOf l == .placing) }

/-- R154: TIP raised. -/
def raiseTip (s : State) : State :=
  if s.pc.protect then s.heldTip
  else
    match s.rxu.crouch with
    | .clear =>
      if s.rxu.stack.length < Config.contextCapacity then (s.enterReflex crouchReflex).beginCrouch
      else s.overflow .tip none
    | _ => s.postNote (.reflex .again .tip none (some .crouch) s.rxu.stack.length)

def tipTest (s : State) : State := s.tipTestWith raiseTip

/-- R27: a change event of the stance set. -/
def stanceUpdate (s : State) : State := s.stanceUpdateWith tipTest

/-- R26: a recomputation. -/
def recomputeTest (s : State) : State := s.recompute.tipTest

end State

end Sys2Proof.Machine
end

