-- ==== Sys2Proof/Machine/Reflex.lean ====
section
/-! DEFINITION. Reflexes: selection, stages, completion and failure, the resumption of contexts, causes
raised and taken (08); with the SHIFT, PROPEL, PAUSE, HOLD, placement and reseat pass they restart. -/

namespace Sys2Proof.Machine

namespace State

/-! ## What a resumption starts -/

/-- R54: a SHIFT of a leg; the latched step parameters and the stall timer. -/
def beginShift (s : State) (l : Leg) : State :=
  let s := s.latchStep
  { s with ssq.phase := .shift, ssq.stepping := some l, ssq.phaseTimer := some 0 }

/-- R54, R50: the SHIFT of a stride step; at step index 1 the leg order is latched. -/
def beginStepShift (s : State) (l : Leg) (index : Nat) : State :=
  let s := if index = 1 then s.latchOrder else s
  beginShift { s with ssq.index := index } l

/-- The first SHIFT of a stride: the order latched, then its first leg. -/
def beginStride (s : State) : State :=
  let s := s.latchOrder
  s.beginStepShift s.ssq.order.first 1

/-- R64. -/
def beginPause (s : State) : State :=
  { s with ssq.phase := .pause, ssq.stepping := none, ssq.phaseTimer := some 0 }

/-- R74: a placement of a leg, with the latched re-place count and surface class. -/
def beginPlacement (s : State) (l : Leg) (target : Point) (clearance : Int) (entry : Option Foothold) : State :=
  let s := { s with pls.placement := some l, pls.sub := .lower, pls.attempt := 0, pls.target := target,
                    pls.attemptTarget := target, pls.liftClearance := clearance,
                    pls.maxReplace := s.ssq.latched.maxReplace, pls.surface := s.ssq.latched.surface,
                    pls.entry := entry, pls.placeTimer := some 0, pls.reswingTimer := none }
  (s.airCmd l .placing target (s.cmdOf l).clearance).stanceUpdate

/-! ## Ends of strides and walks -/

def postStride (s : State) : State := s.postNote (.stride s.ssq.count s.ssq.odometer)

/-- R63: the count goes down by one, with the STRIDE note. -/
def strideEnd (s : State) : State := postStride { s with ssq.count := s.ssq.count - 1 }

/-- R62 step 3: the step ends; the fourth ends the stride. The index becomes that of the step after it, which is 1
after the fourth (DESIGN CHOICE, log entry 50). -/
def endStep (s : State) : State :=
  if s.ssq.index = 4 then strideEnd { s with ssq.index := 1 }
  else { s with ssq.index := s.ssq.index + 1 }

/-- The step that ends now is the last of the walk: the fourth, with one stride left. -/
def lastStep (s : State) : Bool := decide (s.ssq.index = 4 ∧ s.ssq.count ≤ 1)

/-- R53: the walk goes to HOLD before a named step. -/
def enterHold (s : State) (next : NextStep) (reason : BodyReason) : State :=
  setBody { s.idlePhase with ssq.next := some next } .hold reason

/-- R63, R66: the walk ends in STAND. -/
def walkOver (s : State) (reason : BodyReason) : State :=
  setBody { s.idlePhase with ssq.next := none, ssq.stopMark := false } .stand reason

/-- R60, R62, R70: a step ends without its PROPEL completing, and the walk holds before the step after it,
or is over if the count is spent. -/
def holdAfterStep (s : State) (holdReason overReason : BodyReason) : State :=
  if s.lastStep then s.endStep.walkOver overReason
  else
    let s := s.endStep
    s.enterHold ⟨s.ssq.order.nth s.ssq.index, s.ssq.index⟩ holdReason

/-- R70, R152, R157: a WALK context resumed as HOLD, or STAND where its stride was the last. -/
def resumeAsHold (s : State) (leg : Option Leg) (index : Nat) (phase : Phase) (reason : BodyReason) : State :=
  match phase with
  | .pause => s.enterHold ⟨s.ssq.order.first, 1⟩ reason
  | .propel => holdAfterStep { s with ssq.index := index } reason reason
  | _ => s.enterHold ⟨leg.getD s.ssq.order.first, index⟩ reason

/-! ## The reseat procedure's checks -/

/-- R88: success after some passes. -/
def reseatSucceed (s : State) (passes : Nat) : State :=
  let s := { s.idlePhase with pls.reseat := false, pls.reseatSet := [], pls.reseatLeg := none }
  let s := s.postNote (.step none passes s.scu.margin)
  match s.pls.origin with
  | .stand => s
  | .hold =>
    let s := s.postStride
    setBody { s with ssq.count := 0, ssq.next := none } .stand .done
  | .unsettled => s.setBody .stand .done

/-- R89: failure. The reseat set is emptied with the reseat leg (DESIGN CHOICE, log entry 52). -/
def reseatFail (s : State) : State :=
  let s := { s.idlePhase with pls.reseat := false, pls.reseatSet := [], pls.reseatLeg := none }
  let s := s.postFault .reseatFail none
  match s.pls.origin with
  | .stand => setBody { s with ssq.count := 0, ssq.next := none } .hold .fault
  | _ => s

/-- R86, R88: the check of a pass; the fifth check only succeeds or fails, and the pass number stays within its
range (DESIGN CHOICE, log entry 46). -/
def reseatCheck (s : State) (pass : Nat) : State :=
  let s := { s with pls.pass := min 4 pass }
  match s.reseatFailing with
  | [] => s.reseatSucceed (pass - 1)
  | l :: more =>
    if 4 < pass then s.reseatFail
    else beginShift { s with pls.reseatSet := l :: more, pls.reseatLeg := some l } l

/-- R86: the procedure begins, with the body state as its origin. -/
def beginReseat (s : State) : State :=
  reseatCheck { s with pls.reseat := true, pls.origin := s.pc.body.origin } 1

end State

/-! ## Choosing a reflex -/

/-- R144: the suggested-reflex field. -/
def suggestedKind : Nat → Kind
  | 2 => .retract
  | 3 => .reseatOne
  | 4 => .brace
  | 5 => .regroup
  | _ => .none

/-- The first stage of a kind (R146). -/
def Kind.firstStage : Kind → Stage
  | .none => .none
  | .retract => .lift
  | .reseatOne => .reseat
  | .brace => .wait
  | .regroup => .pass
  | .crouch => .crouch

/-- What a stage has come to within its event. -/
inductive Verdict where
  | running | completed | failed
  deriving DecidableEq, Repr

namespace State

/-- R144: the kind and parameter. FIXED uses no parameter and records 0 (DESIGN CHOICE, log entry 28). -/
def selectReflex (s : State) (c : Cause) (l : Leg) : Kind × Int :=
  let item := (s.rxu.table.get c).get l
  match s.zone.select with
  | .fixed => (.regroup, 0)
  | .leg =>
    match (s.link l).last with
    | some r => (suggestedKind r.suggested, item.param)
    | none => (.none, item.param)
  | .table => (item.kind, item.param)

/-- The reflex selected for a cause; RETRACT records the leg's commanded target (R147). The others have no retract
target and record (0, 0, 0) (DESIGN CHOICE, log entry 28). -/
def reflexFor (s : State) (c : Cause) (l : Leg) : Running :=
  let chosen := s.selectReflex c l
  { kind := chosen.1, trigger := .cause c, leg := some l, param := chosen.2,
    retract := match chosen.1 with
      | .retract => (s.cmdOf l).target
      | _ => Point.zero,
    stage := chosen.1.firstStage, lift := 0 }

/-- R149: the commanded z of every STANCE leg raised, not past the crouch height. -/
def braceRaise (s : State) (param : Int) : State :=
  let top := s.pc.geom.crouch
  s.moveStance fun p => { p with z := if top < p.z then p.z else min (p.z + param) top }

/-- R147: the clearance of a RETRACT's LIFT. -/
def retractClearance (s : State) (r : Running) : Int := s.liftClearance + r.param

/-- R147, R149, R91: the recorded stage of the running reflex begins. PLACE is handed the clearance its LIFT sent. A
PLACE resumed while another leg has been left in the air fails, for R46 leaves it no placement (DESIGN CHOICE,
log entry 33). The reseat set of a RESEAT is its one leg (DESIGN CHOICE, log entry 63). -/
def startStage (s : State) : State × Verdict :=
  match s.rxu.running with
  | none => (s, .running)
  | some r =>
    match r.stage, r.leg with
    | .none, _ => (s, .completed)
    | .lift, some l =>
      if s.modeOf l = .swing ∨ s.modeOf l = .placing then
        let clearance := s.retractClearance r
        ({ s.airCmd l .swing r.retract clearance with
           rxu.running := some { r with lift := clearance }, rxu.liftTimer := some 0 }, .running)
      else (s, .completed)
    | .place, some l =>
      if s.otherInAir l then (s, .failed)
      else (s.beginPlacement l r.retract r.lift none, .running)
    | .reseat, some l => (beginShift { s with pls.reseatSet := [l], pls.reseatLeg := some l } l, .running)
    | .wait, _ => ({ s with rxu.stageTimer := some 0 }, .running)
    | .pass, _ =>
      match s.reseatFailing with
      | [] => (s, .completed)
      | l :: more =>
        (beginShift { s with pls.reseatSet := l :: more, pls.reseatLeg := some l, rxu.passFailed := false } l,
         .running)
    | _, _ => (s, .running)

/-- R142: a maskable cause taken, its reflex's first stage begun. The change of the body state is tested
once that stage runs (log entry 9). A reflex that completes in this event is tested after its resumption alone, not in the
RECOVER it passed through (DESIGN CHOICE, log entry 61). -/
def takeCause (s : State) (c : Cause) (l : Leg) : State × Verdict :=
  if s.rxu.stack.length < Config.contextCapacity then
    let before := s.pc.body
    let r := s.reflexFor c l
    let s := s.enterReflex r
    let s := if r.kind = .brace then s.braceRaise r.param else s
    match s.startStage with
    | (s, .running) => (if before = .recover then s else s.tipTest, .running)
    | done => done
  else (s.overflow (.cause c) (some l), .running)

/-- R141: the oldest entry leaves the list and is taken. An entry that meets a full stack leaves it too
(DESIGN CHOICE, log entry 19). -/
def takeOldest (s : State) : State × Verdict :=
  match s.rxu.pending with
  | [] => (s, .running)
  | e :: rest => takeCause { s with rxu.pending := rest } e.cause e.leg

/-! ## Ending a reflex -/

/-- R151, R152: what a popped context resumes; the verdict is that of a stage begun again. A resumed procedure whose
check fails it at once posts the BODY note of its origin before RESEAT_FAIL (DESIGN CHOICE, log entry 59). -/
def resumeContext (s : State) (ctx : Context) (failed : Bool) : State × Verdict :=
  match ctx with
  | .stand => (s.setBody .stand .done, .running)
  | .unsettled => (s.setBody .unsettled .done, .running)
  | .hold next count dir =>
    (setBody { s with ssq.next := next, ssq.count := count, ssq.dir := dir } .hold .done, .running)
  | .reseat origin pass count dir next _ =>
    let s := { s with ssq.next := next, ssq.count := count, ssq.dir := dir }
    let s := s.setBody origin.body .done
    (reseatCheck { s with pls.reseat := true, pls.origin := origin } (pass + 1), .running)
  | .recover r => startStage { s with rxu.running := some r }
  | .walk leg index phase count dir _ =>
    let s := { s with ssq.count := count, ssq.dir := dir }
    if failed then (s.resumeAsHold leg index phase .fault, .running)
    else
      let s := s.setBody .walk .done
      match phase with
      | .propel =>
        ({ s with ssq.phase := .propel, ssq.stepping := leg, ssq.index := index,
                  ssq.phaseTimer := some 0 }, .running)
      | .pause => (s.beginPause, .running)
      | _ => (s.beginStepShift (leg.getD s.ssq.order.first) index, .running)

/-- R151, R152: the running reflex ends: the top context popped, RE1 set to RE2, the note, the resumption. The reseat set
of its stage is emptied (DESIGN CHOICE, log entry 63). -/
def endReflex (s : State) (failed : Bool) : State × Verdict :=
  match s.rxu.running, s.rxu.stack with
  | some r, ctx :: below =>
    let s := s.idlePhase
    let s := { s with rxu.stack := below, rxu.re1 := s.rxu.re2, rxu.running := none,
                      rxu.waiting := s.rxu.waiting && !s.rxu.re2, rxu.stageTimer := none,
                      rxu.liftTimer := none, pls.reseatSet := [], pls.reseatLeg := none }
    let s := s.postNote (.reflex (if failed then .failed else .done) r.trigger r.leg (some r.kind) below.length)
    s.resumeContext ctx failed
  | _, _ => (s, .running)

/-- R151, R152: a stage's verdict acted on. A reflex that ends resumes what it interrupted; once that is in
place, and tested (log entry 9), the oldest pending entry may be taken (R141); what is resumed or taken may
end at once in its turn. The fuel is more than the contexts and entries there are (log entry 32). -/
def settleReflex : Nat → State → Verdict → State
  | 0, s, _ => s
  | _ + 1, s, .running => s
  | n + 1, s, v =>
    match s.endReflex (v == .failed) with
    | (s, .running) =>
      let s := if s.pc.body = .recover then s else s.tipTest
      if s.mayTakePending then
        match s.takeOldest with
        | (s, v) => settleReflex n s v
      else s
    | (s, v') => settleReflex n s v'

/-- Enough fuel for `settleReflex`: each round pops a context or takes an entry. -/
def settleFuel (s : State) : Nat := 2 * s.rxu.pending.length + s.rxu.stack.length + 2

def settle (s : State) (v : Verdict) : State := settleReflex s.settleFuel s v

/-- A cause taken, with all that follows in the event. -/
def take (s : State) (c : Cause) (l : Leg) : State :=
  match s.takeCause c l with
  | (s, v) => s.settle v

/-- R141: the oldest pending entry taken, where it may be. -/
def takePending (s : State) : State :=
  if s.mayTakePending then
    match s.takeOldest with
    | (s, v) => s.settle v
  else s

/-- R141: RE1 becomes 1. -/
def enableRise (s : State) : State :=
  takePending { s with rxu.re1 := true, rxu.waiting := false }

/-- R40, R140: what a change of the body state brings: the TIP test, and in STAND or HOLD the rise that
waits. The spec gives no order between the two; the test comes first, and a TIP taken leaves the enable-waiting mark set
(DESIGN CHOICE, log entry 66). -/
def bodySettled (s : State) (before : BodyState) : State :=
  if s.pc.body = before then s
  else
    let s := s.tipTest
    if s.rxu.waiting && (s.pc.body == .stand || s.pc.body == .hold) then s.enableRise else s

/-! ## Causes -/

/-- R137: a cause dropped; a level cause ends its condition with nothing told. -/
def dropCause (s : State) (c : Cause) (l : Leg) : State :=
  let s := { s with rxu.dropped := countUp 255 s.rxu.dropped }
  match c with
  | .slip => { s with slm.legs := s.slm.legs.modify l fun k => { k with slip := false } }
  | .overload => { s with llc := s.llc.modify l fun k => { k with overload := false } }
  | _ => s

/-- R137: what becomes of a maskable cause. -/
def raiseCause (s : State) (c : Cause) (l : Leg) : State :=
  if !s.pc.body.standing || !s.admitted l then s.dropCause c l
  else if s.pc.protect || s.rxu.crouch != .clear || !s.rxu.re1 then s.pendAdd c l
  else s.take c l

/-! ## Stages that end -/

/-- The recorded stage begins, with all that follows in the event. -/
def runStage (s : State) : State :=
  match s.startStage with
  | (s, v) => s.settle v

/-- R146: the running stage completes. LIFT is followed by PLACE, unless a rise of RE1 that waits takes an
entry first; every other stage is the last of its kind. An OVERFLOW that this entry meets leaves the stage PLACE (DESIGN
CHOICE, log entry 64). -/
def stageDone (s : State) : State :=
  match s.rxu.running with
  | none => s
  | some r =>
    match r.stage with
    | .lift =>
      let s := { s with rxu.running := some { r with stage := .place }, rxu.liftTimer := none }
      let risen := { s with rxu.re1 := true, rxu.waiting := false }
      if s.rxu.waiting then
        if risen.mayTakePending then risen.takePending else risen.runStage
      else s.runStage
    | _ => s.settle .completed

/-- R152: the running stage fails. -/
def stageFailed (s : State) : State := s.settle .failed

/-- R147: the swing timer of a LIFT runs out: LIFT completes, then OBSTRUCT is raised; PLACE begins unless
something was taken, which leaves PLACE to the resumption; so does an OVERFLOW, which stands still at PLACE (DESIGN CHOICE,
log entry 64). -/
def liftTimedOut (s : State) : State :=
  match s.rxu.running with
  | none => s
  | some r =>
    match r.leg with
    | none => s
    | some l =>
      let s := { s with rxu.running := some { r with stage := .place }, rxu.liftTimer := none }
      let risen := if s.rxu.waiting then { s with rxu.re1 := true, rxu.waiting := false } else s
      if s.rxu.waiting && risen.mayTakePending then risen.takePending.raiseCause .obstruct l
      else if risen.takesAtOnce l then risen.raiseCause .obstruct l
      else
        (risen.raiseCause .obstruct l).runStage

end State

end Sys2Proof.Machine
end

