-- ==== Sys2Proof/Machine/Walk.lean ====
section
/-! DEFINITION. Walking: phase boundaries, sway and lift, SWING, placements and their judgement, PROPEL,
PAUSE and STOP (03), and the leg reseats of the reseat procedure and of reflex stages (04). -/

namespace Sys2Proof.Machine

/-- Whose SHIFT, swing or placement runs. -/
inductive Owner where
  | stride | reseat | reflex
  deriving DecidableEq, Repr

/-- The phase boundaries of a walk (R52): the lift, a placement, a PROPEL with its step ended, a PAUSE. -/
inductive Boundary where
  | lift | placed | propel (strideEnded : Bool) | pause
  deriving DecidableEq, Repr

/-- The element after a leg in a list, or none. -/
def legAfter (l : Leg) : List Leg → Option Leg
  | [] => none
  | a :: rest => if a = l then rest.head? else legAfter l rest

namespace State

def owner (s : State) : Owner :=
  match s.rxu.running with
  | some _ => .reflex
  | none => if s.pls.reseat then .reseat else .stride

/-! ## Leg reseats -/

/-- R87, R88: the reseat of one leg has been dealt with; the next leg of the set, or the next check. -/
def reseatNext (s : State) : State :=
  let before := s.pc.body
  match s.pls.reseatLeg.bind fun l => legAfter l s.pls.reseatSet with
  | some k => beginShift { s.idlePhase with pls.reseatLeg := some k } k
  | none => (reseatCheck { s.idlePhase with pls.reseatLeg := none } (s.pls.pass + 1)).bodySettled before

/-- R91: a leg reseat run for a reflex stage has ended. A pass goes on to its next leg after a failed one
(DEDUCED, log entry 15) and fails at its end. -/
def stageLegDone (s : State) (failed : Bool) : State :=
  match s.rxu.running with
  | none => s
  | some r =>
    match r.stage with
    | .pass =>
      let s := { s with rxu.passFailed := s.rxu.passFailed || failed }
      match s.pls.reseatLeg.bind fun l => legAfter l s.pls.reseatSet with
      | some k => beginShift { s.idlePhase with pls.reseatLeg := some k } k
      | none => if s.rxu.passFailed then s.idlePhase.stageFailed else s.idlePhase.stageDone
    | _ => if failed then s.idlePhase.stageFailed else s.idlePhase.stageDone

/-- R89: the reseat procedure fails in its SHIFT. -/
def reseatFailed (s : State) : State := s.reseatFail.bodySettled s.pc.body

/-- R55, R57: a SHIFT ended by NO_MARGIN or STALL, by its owner. -/
def shiftFailed (s : State) (code : FaultCode) (l : Leg) : State :=
  let s := s.postFault code (some l)
  match s.owner with
  | .reflex => s.stageLegDone true
  | .reseat => s.reseatFailed
  | .stride => (s.enterHold ⟨l, s.ssq.index⟩ .fault).bodySettled s.pc.body

/-! ## Lifts -/

/-- R56, R46: the leg may be lifted. -/
def mayLift (s : State) (l : Leg) : Bool := s.linkOk l && !s.otherInAir l && !s.pc.protect

/-- R58: the target of a stride lift, with the head's offsets where the queue has one. -/
def liftTarget (s : State) (l : Leg) : Point :=
  let n := s.nominalTarget l
  match s.headOf l with
  | some e => ⟨n.x + e.dx, n.y + e.dy, n.z + e.dz⟩
  | none => n

/-- R58: SWING begins with a leg's lift to a target. -/
def liftTo (s : State) (l : Leg) (target : Point) : State :=
  let s := { s with ssq.phase := .swing, ssq.phaseTimer := some 0 }
  (s.airCmd l .swing target s.liftClearance).stanceUpdate

/-- R58, R101: the lift of a stride step. -/
def liftStride (s : State) (l : Leg) : State :=
  if s.mayLift l then (s.markHead l).liftTo l (s.liftTarget l) else s

/-- R87: the lift of a leg reseat: its last reported x and y, its commanded z, no entry. -/
def liftReseat (s : State) (l : Leg) : State :=
  if s.mayLift l then s.liftTo l { s.footOf l with z := (s.cmdOf l).target.z } else s

/-! ## PROPEL -/

/-- R61: the move of the stance targets, and the quarter recorded. -/
def beginPropel (s : State) : State :=
  let q := s.ssq.dir.sign * s.ssq.latched.effective.tdiv 4
  let s := { s with ssq.phase := .propel, ssq.phaseTimer := some 0, ssq.quarter := q }
  s.moveStance fun p => { p with x := p.x - q + s.scu.sway.x, y := p.y + s.scu.sway.y }

/-! ## Boundaries -/

/-- R52: the FAULT notes of the hold conditions. -/
def postHoldFaults (s : State) : State :=
  let s := match s.rxu.pending with
    | e :: _ => s.postNote (.fault .causePending (some e.leg) (some (.cause e.cause)))
    | [] => s
  if 3 ≤ s.tdu.body then s.postFault .hotStop none else s

/-- R66: the walk ends by a STOP: the STRIDE note, the count 0, STAND. -/
def endByStop (s : State) (reason : BodyReason) : State :=
  let s := s.postStride
  walkOver { s with ssq.count := 0 } reason

/-- R52: what follows from STAND when the stop mark ends a walk at a boundary. -/
def stopAtBoundary (s : State) (b : Boundary) : State :=
  let before := s.pc.body
  let s := match b with
    | .placed => if s.lastStep then s.endStep.walkOver .done else s.endStep.endByStop .done
    | _ => s.endByStop .done
  (s.bodySettled before).takePending

/-- R52, R53, R60: the hold at a boundary, its FAULT notes before what ends the step. -/
def holdAtBoundary (s : State) (b : Boundary) : State :=
  let before := s.pc.body
  let s := s.postHoldFaults
  let s := match b with
    | .placed => s.holdAfterStep .fault .done
    | .pause => s.enterHold ⟨s.ssq.order.first, 1⟩ .fault
    | _ => s.enterHold ⟨s.ssq.stepping.getD s.ssq.order.first, s.ssq.index⟩ .fault
  s.bodySettled before

/-- R52: the walk goes on into the next phase. -/
def goOn (s : State) (b : Boundary) : State :=
  match b with
  | .lift =>
    match s.ssq.stepping with
    | some l => s.liftStride l
    | none => s
  | .placed => s.beginPropel
  | .propel strideEnded =>
    if strideEnded then if s.tdu.body = 2 then s.beginPause else s.beginStride
    else s.beginStepShift (s.ssq.order.nth s.ssq.index) s.ssq.index
  | .pause => s.beginStride

/-- R52: a phase boundary. The stop mark first; then the Reflex Unit, where a rise that waits takes effect
and the oldest entry may be taken; then the hold conditions; then the next phase. -/
def boundary (s : State) (b : Boundary) : State :=
  if s.ssq.stopMark then s.stopAtBoundary b
  else
    let s := if s.rxu.waiting then { s with rxu.re1 := true, rxu.waiting := false } else s
    if s.mayTakePending then s.takePending
    else if s.mustHold then s.holdAtBoundary b
    else s.goOn b

/-- R60: the boundary of a placement that failed; its cause is pending, so the walk holds. -/
def boundaryFailed (s : State) : State :=
  if s.ssq.stopMark then s.stopAtBoundary .placed
  else
    let s := if s.rxu.waiting then { s with rxu.re1 := true, rxu.waiting := false } else s
    if s.mayTakePending then s.takePending else s.holdAtBoundary .placed

/-! ## SHIFT -/

/-- R55: the sway step applied to the stance targets and the accumulator. -/
def applySway (s : State) (step : Pair) : State :=
  let s := s.moveStance fun p => { p with x := p.x - step.x, y := p.y - step.y }
  { s with scu.sway := ⟨s.scu.sway.x + step.x, s.scu.sway.y + step.y⟩, ssq.phaseTimer := some 0 }

/-- R55, R56: a settled arrival: the margin test, the lift or the sway step. -/
def swayOrLift (s : State) (l : Leg) : State :=
  let margin := s.predictedMargin l
  let s := s.recordPredicted l
  if s.ssq.latched.threshold ≤ margin.value then
    match s.owner with
    | .stride => s.boundary .lift
    | _ => s.liftReseat l
  else
    let step := s.swayStep l s.ssq.latched.swayLimit
    if step = Pair.zero then s.shiftFailed .noMargin l else s.applySway step

/-- R54: the sway-step event of an accepted sample. -/
def swayEvent (s : State) : State :=
  match s.ssq.phase, s.ssq.stepping with
  | .shift, some l => if s.settled && !s.pc.protect then s.swayOrLift l else s
  | _, _ => s

/-! ## Placements -/

/-- R73: the contact threshold of the placement that runs. -/
def placeThreshold (s : State) : Int :=
  match s.pls.entry.bind Foothold.contact with
  | some f => f
  | none => s.pls.surface.contact

/-- R79: the target of a re-place attempt. -/
def attemptPoint (s : State) (k : Nat) : Point :=
  let t := s.pls.target
  match (match s.pls.entry with | some e => e.alternates[k - 1]? | none => none) with
  | some a => clampPoint ⟨t.x + a.x, t.y + a.y, t.z⟩
  | none => clampPoint ⟨t.x, t.y, max (t.z - s.pls.surface.probe * k) (t.z - 60)⟩

/-- R74: LOWER entered again after a RESWING. -/
def lowerAgain (s : State) (l : Leg) : State :=
  let s := { s with pls.sub := .lower, pls.reswingTimer := none, pls.placeTimer := some 0 }
  (s.airCmd l .placing s.pls.attemptTarget (s.cmdOf l).clearance).stanceUpdate

/-- The owner of a verified placement is told. -/
def placedVerified (s : State) : State :=
  match s.owner with
  | .reflex => s.stageLegDone false
  | .reseat => s.reseatNext
  | .stride => s.boundary .placed

/-- R77: an attempt verified: the leg joins the stance set, the entry in use is consumed, the STEP note
posted, the placement ended, and its owner told if TIP was not taken (DESIGN CHOICE, log entry 10). -/
def placeVerified (s : State) (l : Leg) : State :=
  let s := { s with pls.placeTimer := none, pls.reswingTimer := none }
  let s := s.setCmd l .stance s.pls.attemptTarget (s.cmdOf l).clearance
  let s := (s.setVerified l true).stanceUpdateWith fun t => t
  let s := if s.pls.entry.isSome then s.consumeHead l else s
  let s := s.postNote (.step (some l) s.pls.attempt s.scu.margin)
  let s := tipTest { s with pls.placement := none, pls.entry := none }
  if s.undisturbed then s.placedVerified else s

/-- R81, R82: an exhausted leg is left in PLACING at the last attempt target; out of RESWING it is still in SWING. -/
def leaveInPlacing (s : State) (l : Leg) : State :=
  match s.pls.sub with
  | .lower => s
  | .reswing => s.airCmd l .placing s.pls.attemptTarget (s.cmdOf l).clearance

/-- R81: the attempts exhausted: the entry in use discarded first, then the leg left in PLACING, then PLACE_FAIL, or
the failure of the reflex stage. An owner that the cause pre-empts is not told; nor is one that a TIP of the same event
pre-empts (DEDUCED, log entry 55). -/
def placeExhausted (s : State) (l : Leg) : State :=
  let crouch := s.rxu.crouch
  let owner := s.owner
  let s := if s.pls.entry.isSome then s.discardHead l else s
  let s := s.leaveInPlacing l
  let s := { s.setVerified l false with pls.placement := none, pls.entry := none, pls.placeTimer := none,
                                        pls.reswingTimer := none }
  let s := s.stanceUpdate
  let tell := fun (tellOwner : State → State) (s : State) => if s.rxu.crouch = crouch then tellOwner s else s
  match owner with
  | .reflex => tell (fun s => s.stageLegDone true) s
  | .reseat =>
    if s.takesAtOnce l then s.raiseCause .placeFail l else tell reseatNext (s.raiseCause .placeFail l)
  | .stride =>
    if s.takesAtOnce l then s.raiseCause .placeFail l else tell boundaryFailed (s.raiseCause .placeFail l)

/-- R78, R80: an attempt not verified: the next re-place attempt, or none left. -/
def placeUnverified (s : State) (l : Leg) : State :=
  if s.pls.attempt < s.pls.maxReplace then
    let k := s.pls.attempt + 1
    let t := s.attemptPoint k
    let s := { s with pls.attempt := k, pls.attemptTarget := t, pls.sub := .reswing, pls.placeTimer := none,
                      pls.reswingTimer := some 0 }
    (s.airCmd l .swing t (s.pls.liftClearance.tdiv 2)).stanceUpdate
  else s.placeExhausted l

/-- R75: the report ends LOWER. -/
def judges (s : State) (r : Report) : Bool :=
  decide (s.placeThreshold ≤ r.force ∨ r.z ≤ s.pls.attemptTarget.z)

/-- R77: the judging report verifies the attempt. -/
def verifies (s : State) (r : Report) : Bool :=
  let t := s.pls.attemptTarget
  decide (s.placeThreshold ≤ r.force ∧
    ((r.x - t.x).natAbs + (r.y - t.y).natAbs : Int) ≤ s.pls.surface.tolerance)

/-- R75, R80: a report of the placement leg. -/
def placeReport (s : State) (l : Leg) (r : Report) : State :=
  match s.pls.sub with
  | .lower =>
    if s.judges r then if s.verifies r then s.placeVerified l else s.placeUnverified l else s
  | .reswing => if r.swingDone && s.modeOf l == .swing then s.lowerAgain l else s

/-! ## SWING -/

/-- R59, R60: PLACE begins; a stride carries the entry marked in use at the lift. -/
def beginPlace (s : State) (l : Leg) : State :=
  let entry := (s.headOf l).filter Foothold.inUse
  let s := { s with ssq.phase := .place, ssq.phaseTimer := none }
  s.beginPlacement l (s.cmdOf l).target (s.cmdOf l).clearance entry

/-- R59: the swing timer runs out: OBSTRUCT; PLACE begins unless the cause was taken at once. -/
def swingTimedOut (s : State) (l : Leg) : State :=
  if s.takesAtOnce l then s.raiseCause .obstruct l else (s.raiseCause .obstruct l).beginPlace l

/-! ## The end of a PROPEL -/

/-- The step after the one that ended stands as a SHIFT yet to begin (DESIGN CHOICE, log entry 14). -/
def afterStep (s : State) : State :=
  { s with ssq.phase := .shift, ssq.stepping := some (s.ssq.order.nth s.ssq.index), ssq.phaseTimer := none }

/-- R62: the PROPEL completes: odometer and lookup, sway, step end, boundary. -/
def propelComplete (s : State) : State :=
  let odometer := (clamp 0 Config.odometerMax (s.ssq.odometer + s.ssq.quarter)).toNat
  let s := zoneLookup { s with ssq.phaseTimer := none, ssq.odometer := odometer } .propel
  let s := { s with scu.sway := Pair.zero }
  if s.lastStep then (s.endStep.walkOver .done).bodySettled s.pc.body
  else s.endStep.afterStep.boundary (.propel (s.ssq.index == 4))

/-- R62: the propel timer runs out. -/
def propelStalled (s : State) : State :=
  let before := s.pc.body
  let s := s.postFault .stall s.ssq.stepping
  let s := if s.ssq.stopMark then
      if s.lastStep then s.endStep.walkOver .done else s.endStep.endByStop .done
    else s.holdAfterStep .fault .done
  s.bodySettled before

/-- R62, R149: the operations that wait for the stance legs to settle. -/
def settleWaiters (s : State) : State :=
  if s.settled && !s.pc.protect then
    match s.rxu.running, s.ssq.phase with
    | none, .propel => s.propelComplete
    | some r, _ => if r.stage = .wait then s.stageDone else s
    | _, _ => s
  else s

/-- A change event of the stance set, and the operations that test on it (DESIGN CHOICE, log entry 11). -/
def stanceChange (s : State) : State :=
  if s.stanceDerived = s.scu.stance then s else s.stanceUpdate.settleWaiters

end State

end Sys2Proof.Machine
end

