-- ==== Sys2Proof/Machine/LegLinks.lean ====
section
/-! DEFINITION. The taking of reports: counting and judging (R163 to R167), the Slip Monitor (07), the rise,
lowering and first-report steps (01), calibration, CROUCH and LIFT tests, and the flags (R168, R169). -/

namespace Sys2Proof.Machine

namespace State

/-! ## Slip Monitor -/

/-- R128: a report within 5 mm of the commanded x and y sets the steady mark. -/
def steadyReport (s : State) (l : Leg) (r : Report) : State :=
  let t := (s.cmdOf l).target
  if (r.x - t.x).natAbs ≤ 5 ∧ (r.y - t.y).natAbs ≤ 5 then
    { s with slm.legs := s.slm.legs.modify l fun k => { k with steady := true, steadyTimer := none } }
  else s

/-- R130: the deviation of a report. -/
def deviation (s : State) (l : Leg) (r : Report) : Nat :=
  let t := (s.cmdOf l).target
  min 255 ((r.x - t.x).natAbs + (r.y - t.y).natAbs)

/-- R130, R125: a deviation recorded in the leg's window. -/
def recordDeviation (s : State) (l : Leg) (d : Nat) : State :=
  let k := s.slipOf l
  if k.length = 0 then { s with slm.legs := s.slm.legs.set l { k with newest := some d } }
  else
    { s with
      slm.store := s.slm.store.set k.next d,
      slm.legs := s.slm.legs.set l
        { k with newest := some d, fill := min k.length (k.fill + 1),
                 next := if k.start + k.length ≤ k.next + 1 then k.start else k.next + 1 } }

/-- The records of a leg's window, newest first, as many as the fill count (R125, R134). -/
def records (s : State) (l : Leg) : List Nat :=
  let k := s.slipOf l
  (List.range k.fill).map fun i =>
    s.slm.store.getD (k.start + (k.next - k.start + k.length - 1 - i) % k.length) 0

/-- R131: the slip threshold, halved on SPILL. -/
def slipThreshold (s : State) : Nat :=
  match s.zone.surface with
  | .spill => s.zone.slipThreshold / 2
  | _ => s.zone.slipThreshold

/-- R131: the test of the SLIP condition, the newest deviation being d. -/
def slipTest (s : State) (l : Leg) (d threshold : Nat) : Bool :=
  let k := s.slipOf l
  decide (threshold < d) &&
    (k.length == 0 || decide ((k.fill + 1) / 2 ≤ ((s.records l).filter fun x => decide (threshold < x)).length))

/-- R131: the decision, and SLIP raised or told gone. -/
def decideSlip (s : State) (l : Leg) (d : Nat) : State :=
  let threshold := s.slipThreshold
  let s := { s with slm.legs := s.slm.legs.modify l fun k => { k with lastThreshold := some threshold } }
  if s.slipTest l d threshold then
    if (s.slipOf l).slip then s
    else raiseCause { s with slm.legs := s.slm.legs.modify l fun k => { k with slip := true } } .slip l
  else s.endSlip l

/-- R132: the second low-force report. -/
def unload (s : State) (l : Leg) : State :=
  let s := { s with slm.legs := s.slm.legs.modify l fun k => { k with lowForce := 0 } }
  ((s.setVerified l false).stanceChange).raiseCause .unload l

/-- R129: a stance report. -/
def stanceReport (s : State) (l : Leg) (r : Report) : State :=
  let low := if r.force < s.zone.surface.unloadLimit then (s.slipOf l).lowForce + 1 else 0
  if 2 ≤ low then s.unload l
  else
    let s := { s with slm.legs := s.slm.legs.modify l fun k => { k with lowForce := low } }
    if (s.slipOf l).steady then
      let d := s.deviation l r
      (s.recordDeviation l d).decideSlip l d
    else s

/-- R129: a report handed to the Slip Monitor. -/
def slipReport (s : State) (l : Leg) (r : Report) : State :=
  let s := if (s.slipOf l).steady then s else s.steadyReport l r
  if s.inStance l && s.pc.body.standing then s.stanceReport l r else s

/-! ## Rising and lowering -/

/-- R12: the lowering begins. The next-step record is kept (log entry 27). -/
def beginLowering (s : State) (reason : BodyReason) : State :=
  let s := s.setBody .lowering reason
  let s := Leg.all.foldl (fun s l =>
    if s.admitted l then
      s.setCmd l .stance { (s.cmdOf l).target with z := -150 } (s.cmdOf l).clearance
    else s) s
  let s := { s with pc.riseTimer := none, pc.loweringTimer := some 0, ssq.count := 0,
                    pc.lowered := .tab fun l => s.admitted l && s.linkOk l }
  s.removeEdges.stanceUpdate

/-- R13: the lowering ends: every leg LIMP and unverified, the sway returned, posture-safe set, REST. The sway is
returned before the recomputation that the change of the stance set brings (DESIGN CHOICE, log entry 48). -/
def endLowering (s : State) (reason : BodyReason) : State :=
  let s := Leg.all.foldl (fun s l => (s.setMode l .limp).setVerified l false) s
  let s := { s with scu.sway := Pair.zero, pc.loweringTimer := none, pc.lowered := .all false,
                    pc.postureSafe := true }
  s.stanceUpdate.setBody .rest reason

/-- R8: every admitted leg has reported since the rise began, at stand height and in contact. A leg whose
link is LOST cannot pass (R9; DEDUCED, log entry 39). -/
def riseComplete (s : State) : Bool :=
  Leg.all.all fun l =>
    !s.admitted l || (s.pc.roseReported.get l && s.linkOk l && s.nearHeight s.pc.geom.stand l &&
      s.loadedAt s.contactInForce l)

/-- R8: a report while RISING. -/
def riseReport (s : State) (l : Leg) : State :=
  let s := { s with pc.roseReported := s.pc.roseReported.set l true }
  if s.riseComplete then
    let s := { s with pc.riseTimer := none }
    let s := Leg.all.foldl (fun s k => if s.admitted k then s.setVerified k true else s) s
    let s := s.stanceUpdate
    (s.setBody .stand .done).bodySettled s.pc.body
  else s

/-- R13: a report of a lowered leg. -/
def lowerReport (s : State) : State :=
  if Leg.all.all fun l => !(s.pc.lowered.get l && s.linkOk l) || s.nearHeight (-150) l then
    s.endLowering .done
  else s

/-- R41: the survey ends, and the condition is tested. -/
def endSurvey (s : State) : State :=
  tipTest { s with scu.survey := false, scu.surveyTimer := none }

/-- R15: a leg's first report after a warm reset into UNSETTLED. A withdrawn leg stays LIMP (R174; log
entry 30). A first report that recovers a LOST link counts as one, and may set the flag (DESIGN CHOICE, log entry 65). The
survey ends with the last of them (R41). -/
def firstReport (s : State) (l : Leg) (r : Report) : State :=
  let s := { s with pc.awaitFirst := s.pc.awaitFirst.set l false }
  let s :=
    if s.admitted l then
      match s.pc.body with
      | .rest => s
      | .lowering => (s.setCmd l .stance ⟨r.x, r.y, -150⟩ (s.cmdOf l).clearance).stanceChange
      | _ =>
        let s := s.setCmd l .stance ⟨r.x, r.y, r.z⟩ (s.cmdOf l).clearance
        (if 60 ≤ r.force then s.setVerified l true else s).stanceChange
    else s
  if s.scu.survey && s.pc.awaitFirst == .all false then s.endSurvey else s

/-! ## Calibration -/

/-- R171, R172: the calibration of a leg ends: IDLE, LIMP. -/
def calibEnd (s : State) (l : Leg) : State :=
  let s := { s with llc := s.llc.modify l fun k => { k with calib := .idle, calibTimer := none } }
  (s.setMode l .limp).stanceUpdate

/-- R172. -/
def calibFail (s : State) (l : Leg) : State := (s.calibEnd l).postFault .calibFail (some l)

/-- R171: a taken report. -/
def calibReport (s : State) (l : Leg) (r : Report) : State :=
  match (s.link l).calib with
  | .awaitBusy =>
    if r.calibBusy then { s with llc := s.llc.modify l fun k => { k with calib := .awaitDone } } else s
  | .awaitDone =>
    if r.calibDone && !r.calibBusy then
      { s with llc := s.llc.modify l fun k => { k with calib := .settle, calibTimer := some 0 } }
    else s
  | _ => s

/-! ## CROUCH -/

/-- R156: every crouching leg at the crouch height and in contact. -/
def crouchComplete (s : State) : Bool :=
  Leg.all.all fun l =>
    !s.rxu.crouching.get l || (s.nearHeight s.pc.geom.crouch l && s.loadedAt s.contactInForce l)

/-- R156: the CROUCH ends, with its REFLEX note. -/
def crouched (s : State) (event : ReflexEvent) : State :=
  postNote { s with rxu.crouch := .crouched, rxu.stageTimer := none }
    (.reflex event .tip none (some .crouch) s.rxu.stack.length)

/-! ## The operation that waits on a leg's reports -/

/-- R165 step 5: the SSQ, PLS or RXU operation that a report of the leg goes to. -/
inductive Waiting where
  | crouch | lift | swing | placement | settle | nothing
  deriving DecidableEq, Repr

/-- What waits, the latch letting it act (R18). -/
def waitingOn (s : State) (l : Leg) : Waiting :=
  if s.pc.protect then .nothing
  else if s.rxu.crouch == .running && s.rxu.crouching.get l then .crouch
  else if s.rxu.liftTimer.isSome && (s.rxu.running.bind Running.leg) == some l then .lift
  else if s.ssq.phase == .swing && s.ssq.stepping == some l then .swing
  else if s.pls.placement == some l then .placement
  else if s.inStance l then .settle
  else .nothing

/-- R165 step 5, for that operation. -/
def waitingReport (s : State) (l : Leg) (r : Report) : Waiting → State
  | .crouch => if s.crouchComplete then s.crouched .done else s
  | .lift => if r.swingDone && s.modeOf l == .swing then s.stageDone else s
  | .swing => if r.swingDone && s.modeOf l == .swing then s.beginPlace l else s
  | .placement => s.placeReport l r
  | .settle => s.settleWaiters
  | .nothing => s

/-- R165 step 5. -/
def operationReport (s : State) (l : Leg) (r : Report) : State :=
  let waiting := s.waitingOn l
  let s := if s.pc.awaitFirst.get l then s.firstReport l r else s
  let s := s.calibReport l r
  match s.pc.body with
  | .rising => if s.admitted l then s.riseReport l else s
  | .lowering => if s.pc.lowered.get l then s.lowerReport else s
  | _ => s.waitingReport l r waiting

/-! ## Flags -/

/-- R168. -/
def obstructFlag (s : State) (l : Leg) (r : Report) : State :=
  if r.obstruct then
    if (s.modeOf l == .swing || s.modeOf l == .placing) && !(s.link l).obstruct then
      raiseCause { s with llc := s.llc.modify l fun k => { k with obstruct := true } } .obstruct l
    else s
  else { s with llc := s.llc.modify l fun k => { k with obstruct := false } }

/-- R169. -/
def overloadFlag (s : State) (l : Leg) (r : Report) : State :=
  if r.overload then
    if s.modeOf l != .limp && !(s.link l).overload then
      raiseCause { s with llc := s.llc.modify l fun k => { k with overload := true } } .overload l
    else s
  else s.endOverload l

/-! ## Taking and counting -/

/-- R165: a good report taken, step by step. -/
def takeReport (s : State) (l : Leg) (r : Report) : State :=
  let s := { s with llc := s.llc.modify l fun k => { k with last := some r } }
  let s := s.stanceChange
  let s := s.thermalReport l r.temp
  let s := s.slipReport l r
  let s := if s.inStance l then s.recomputeTest else s
  let s := s.operationReport l r
  (s.obstructFlag l r).overloadFlag l r

/-- R166, R167: a good report counted, and taken when the link is OK after it. -/
def goodReport (s : State) (l : Leg) (r : Report) : State :=
  let s := { s with llc := s.llc.modify l fun k => { k with moduleFault := false } }
  let k := s.link l
  match k.link with
  | .lost =>
    if k.good + 1 < 3 then { s with llc := s.llc.set l { k with good := k.good + 1 } }
    else
      let s := { s with llc := s.llc.set l { k with link := .ok, good := 0, miss := 0 } }
      (s.postNote (.leg l .ok k.missTotal)).takeReport l r
  | _ => takeReport { s with llc := s.llc.set l { k with link := .ok, miss := 0 } } l r

/-- R166: the change to LOST, in its order. -/
def linkLost (s : State) (l : Leg) : State :=
  let s := { s with llc := s.llc.modify l fun k => { k with link := .lost, miss := 0, good := 0, obstruct := false },
                    pc.lowered := s.pc.lowered.set l false,
                    rxu.crouching := s.rxu.crouching.set l false }
  let s := (s.setVerified l false).stanceChange
  let s := s.endOverload l
  let s := if (s.link l).calib = .idle then s else s.calibFail l
  let s := s.postNote (.leg l .lost (s.link l).missTotal)
  s.raiseCause .linkLost l

/-- R164, R166, R167: a miss. -/
def missReport (s : State) (l : Leg) : State :=
  let k := s.link l
  let total := countUp 65535 k.missTotal
  match k.link with
  | .lost => { s with llc := s.llc.set l { k with missTotal := total, good := 0 } }
  | _ =>
    let s := { s with llc := s.llc.set l { k with missTotal := total, miss := k.miss + 1 } }
    if 3 ≤ k.miss + 1 then s.linkLost l else s

/-- R164: a miss of a sound record with FAULT set; the note comes once. Its miss total counts this miss (DESIGN
CHOICE, log entry 38), and it comes before what the miss brings (DESIGN CHOICE, log entry 56). -/
def faultReport (s : State) (l : Leg) : State :=
  let s := if (s.link l).moduleFault then s
    else postNote { s with llc := s.llc.modify l fun k => { k with moduleFault := true } }
      (.leg l .moduleFault (countUp 65535 (s.link l).missTotal))
  s.missReport l

/-- R164: a record that ends an exchange. -/
def judgeRecord (s : State) (l : Leg) (record : List Byte) : State :=
  match judgeReport record with
  | .miss => s.missReport l
  | .moduleFault => s.faultReport l
  | .good r => s.goodReport l r

end State

end Sys2Proof.Machine
end

