-- ==== Sys2Proof/Machine/Actions.lean ====
section
/-! DEFINITION. The DO actions of the host, each judged in its own order (R193): posture, walking, legs,
footholds, reflexes. An operand that the payload is too short to hold is given as none. -/

namespace Sys2Proof.Machine

/-- What a message comes to: the state it leaves, and the status and payload of its ANSWER. -/
structure Reply where
  state : State
  status : Status
  payload : Payload
  deriving DecidableEq, Repr

namespace State

/-- An ANSWER with an empty payload; so is that of a refused PLAN, UNPLAN or SWAP (DESIGN CHOICE, log entry 62). -/
def reply (s : State) (st : Status) : Reply := { state := s, status := st, payload := .empty }

/-! ## Posture -/

/-- R7: the rise begins. -/
def beginRise (s : State) : State :=
  let s := setBody { s with pc.postureSafe := false } .rising .host
  let s := { s with pc.riseTimer := some 0, pc.roseReported := .all false }
  let s := Leg.all.foldl (fun s l =>
    if s.admitted l then s.setCmd l .stance (s.riseTarget l) (s.cmdOf l).clearance else s) s
  s.stanceUpdate

/-- R6: whether any leg's calibration is in progress. -/
def calibrating (s : State) : Bool := Leg.all.any fun l => (s.link l).calib != .idle

/-- R6. -/
def doRise (s : State) : Reply :=
  if s.pc.protect then s.reply .latched
  else
    match s.pc.body with
    | .rising => s.reply .busy
    | .lowering => s.reply .busy
    | .rest =>
      if !s.pc.written then s.reply .state
      else if s.calibrating then s.reply .busy
      else if !(Leg.all.all fun l => !s.admitted l || (s.link l).firstDone) then s.reply .state
      else if 1 < (Leg.all.filter fun l => !s.admitted l).length then s.reply .state
      else if !(Leg.all.all fun l => !s.admitted l || s.linkOk l) then s.reply .state
      else s.beginRise.reply .ok
    | _ => s.reply .state

/-- R11: the protect latch is no test. -/
def doSettle (s : State) : Reply :=
  match s.pc.body with
  | .rest => s.reply .ok
  | .walk => s.reply .busy
  | .recover => s.reply .busy
  | .rising => s.reply .busy
  | .lowering => s.reply .busy
  | _ => if s.pls.reseat then s.reply .busy else (s.beginLowering .host).reply .ok

/-! ## Walking -/

/-- R49: a walk of a count and direction begins. -/
def beginWalk (s : State) (count : Nat) (dir : Direction) : State :=
  let before := s.pc.body
  let s := { s with ssq.count := count, ssq.dir := dir, ssq.stopMark := false }
  ((s.setBody .walk .host).beginStride).bodySettled before

/-- R48. -/
def doStride (s : State) (count dir : Option Byte) : Reply :=
  if s.pc.protect then s.reply .latched
  else
    match s.pc.body with
    | .rest => s.reply .state
    | .unsettled => s.reply .state
    | .stand =>
      if s.pls.reseat then s.reply .busy
      else
        match count, dir.bind fun d => Direction.ofCode? d.toNat with
        | some n, some d =>
          if n = 0 then s.reply .range
          else if !(Leg.all.all fun l => s.admitted l && s.linkOk l) then s.reply .state
          else if !(Leg.all.all fun l => s.modeOf l == .stance && s.verifiedOf l) then s.reply .state
          else if 3 ≤ s.tdu.body then s.reply .state
          else if s.scu.attStale then s.reply .state
          else if !s.rxu.pending.isEmpty then s.reply .state
          else (s.beginWalk (min 127 n.toNat) d).reply (if 127 < n.toNat then .clamped else .ok)
        | _, _ => s.reply .range
    | _ => s.reply .busy

/-- R66, R64: a STOP in WALK, by the phase it meets. -/
def stopWalk (s : State) : State :=
  match s.ssq.phase with
  | .swing => { s with ssq.stopMark := true }
  | .place => { s with ssq.stopMark := true }
  | .propel => { s with ssq.stopMark := true }
  | _ => (s.endByStop .host).bodySettled s.pc.body

/-- R67: a STOP in HOLD. -/
def stopHold (s : State) : State :=
  let before := s.pc.body
  let s := s.postStride
  let s := removeEdges { s with ssq.count := 0, ssq.next := none }
  (s.setBody .stand .host).bodySettled before

/-- R66, R67. -/
def doStop (s : State) : Reply :=
  if s.pc.protect then s.reply .latched
  else
    match s.pc.body with
    | .walk => s.stopWalk.reply .ok
    | .hold => if s.pls.reseat then s.reply .busy else s.stopHold.reply .ok
    | .stand => s.reply .ok
    | .rest => s.reply .state
    | .unsettled => s.reply .state
    | _ => s.reply .busy

/-- R65: the walk goes on at a step. -/
def continueAt (s : State) (n : NextStep) : State :=
  let before := s.pc.body
  let s := s.setBody .walk .host
  (beginStepShift { s with ssq.stopMark := false } n.leg n.index).bodySettled before

/-- R65. -/
def doContinue (s : State) : Reply :=
  if s.pc.protect then s.reply .latched
  else
    match s.pc.body with
    | .rising => s.reply .busy
    | .lowering => s.reply .busy
    | .hold =>
      if s.pls.reseat then s.reply .busy
      else if !s.rxu.pending.isEmpty then s.reply .state
      else if 3 ≤ s.tdu.body then s.reply .state
      else if s.scu.attStale then s.reply .state
      else if !s.legsReady then s.reply .state
      else
        match s.ssq.next with
        | some n => if s.ssq.count = 0 then s.reply .state else (s.continueAt n).reply .ok
        | none => s.reply .state
    | _ => s.reply .state

/-- R85. -/
def doReseat (s : State) : Reply :=
  if s.pc.protect then s.reply .latched
  else
    match s.pc.body with
    | .rest => s.reply .state
    | .walk => s.reply .busy
    | .recover => s.reply .busy
    | .rising => s.reply .busy
    | .lowering => s.reply .busy
    | _ => if s.pls.reseat then s.reply .busy else (s.beginReseat.bodySettled s.pc.body).reply .ok

/-! ## Legs -/

/-- The leg a leg operand names. -/
def legOperand (b : Option Byte) : Option Leg := b.bind fun b => Leg.ofIndex? b.toNat

/-- R170: a calibration begins. -/
def beginCalibration (s : State) (l : Leg) : State :=
  let s := { s with llc := s.llc.modify l fun k => { k with calib := .awaitBusy, calibTimer := some 0 } }
  (s.setMode l .calib).stanceUpdate

/-- R170. -/
def doCalibrate (s : State) (leg : Option Byte) : Reply :=
  if s.pc.protect then s.reply .latched
  else
    match legOperand leg with
    | none => s.reply .range
    | some l =>
      if !s.admitted l then s.reply .absent
      else
        match s.pc.body with
        | .rising => s.reply .busy
        | .lowering => s.reply .busy
        | .rest =>
          if (s.link l).calib ≠ .idle then s.reply .busy
          else if !s.linkOk l then s.reply .state
          else (s.beginCalibration l).reply .ok
        | _ => s.reply .state

/-- R173: the leg taken out of use. -/
def withdraw (s : State) (l : Leg) : State :=
  let s := { s with llc := s.llc.modify l fun k => { k with withdrawn := true } }
  let s := ((s.setMode l .limp).setVerified l false).endOverload l
  let s := { s with llc := s.llc.modify l fun k => { k with obstruct := false } }
  let s := s.slmLeave l
  let s := { s with fhq := s.fhq.set l .empty }
  let s := s.removeLeg l
  (s.postNote (.leg l .withdrawn (s.link l).missTotal)).stanceUpdate

/-- R173. In STAND the predicted margin is asked for, and stays on record whatever the answer (R36; DESIGN CHOICE, log
entry 41). A reseat in HOLD or UNSETTLED does not come before the body state (DESIGN CHOICE, log entry 51). -/
def doWithdraw (s : State) (leg : Option Byte) : Reply :=
  if s.pc.protect then s.reply .latched
  else
    match legOperand leg with
    | none => s.reply .range
    | some l =>
      if !s.admitted l then s.reply .absent
      else
        match s.pc.body with
        | .hold => s.reply .state
        | .unsettled => s.reply .state
        | .rest =>
          if s.pls.reseat then s.reply .busy
          else if (s.link l).calib ≠ .idle then s.reply .busy
          else (s.withdraw l).reply .ok
        | .stand =>
          if s.pls.reseat then s.reply .busy
          else if (s.link l).calib ≠ .idle then s.reply .busy
          else if (s.predictedMargin l).value < s.zone.threshold then (s.recordPredicted l).reply .margin
          else ((s.recordPredicted l).withdraw l).reply .ok
        | _ => s.reply .busy

/-- R175: a withdrawn leg admitted; in STAND it is reseated. -/
def admitAgain (s : State) (l : Leg) : State :=
  let s := { s with llc := s.llc.modify l fun k => { k with withdrawn := false } }
  let s := (s.postNote (.leg l .admitted (s.link l).missTotal)).stanceUpdate
  match s.pc.body with
  | .stand => ((s.setTarget l (s.riseTarget l)).beginReseat).bodySettled s.pc.body
  | _ => s

/-- R175. A reseat in HOLD or UNSETTLED does not come before the body state (DESIGN CHOICE, log entry 51). -/
def doAdmit (s : State) (leg : Option Byte) : Reply :=
  if s.pc.protect then s.reply .latched
  else
    match legOperand leg with
    | none => s.reply .range
    | some l =>
      match s.pc.body with
      | .hold => s.reply .state
      | .unsettled => s.reply .state
      | .rest =>
        if s.pls.reseat then s.reply .busy
        else if s.admitted l then s.reply .ok
        else (s.admitAgain l).reply .ok
      | .stand =>
        if s.pls.reseat then s.reply .busy
        else if s.admitted l then s.reply .ok
        else if !s.linkOk l then s.reply .state
        else (s.admitAgain l).reply .ok
      | _ => s.reply .busy

/-! ## Footholds -/

def setQueue (s : State) (l : Leg) (entries : List Foothold) : State :=
  { s with fhq := s.fhq.modify l fun q => { q with entries := entries } }

/-- R95: a tag sent equals one in the queue or another tag sent. -/
def duplicates (queue sent : List Foothold) : Bool :=
  sent.any (fun e => queue.any fun f => e.tag == f.tag) || !decide (sent.map Foothold.tag).Nodup

/-- The status of an accepted message whose entries were clamped or not (R94). -/
def clampStatus (sent : List Foothold) : Status :=
  if sent.map Foothold.clamped = sent then .ok else .clamped

/-- R95, R96. -/
def doPlan (s : State) (leg count : Option Byte) (bytes : List Byte) : Reply :=
  if s.pc.protect then s.reply .latched
  else
    match legOperand leg with
    | none => s.reply .range
    | some l =>
      if !s.admitted l then s.reply .absent
      else
        match count with
        | none => s.reply .range
        | some n =>
          if n.toNat = 0 ∨ 8 < n.toNat then s.reply .range
          else
            match entriesOfBytes n.toNat bytes with
            | none => s.reply .range
            | some sent =>
              let queue := (s.queueOf l).entries
              if Config.footholdCapacity < queue.length + sent.length then s.reply .full
              else if duplicates queue sent then s.reply .duplicate
              else
                let entries := queue ++ sent.map Foothold.clamped
                { state := s.setQueue l entries, status := clampStatus sent,
                  payload := .bytes [BitVec.ofNat 8 entries.length] }

/-- R97. -/
def doUnplan (s : State) (leg tag : Option Byte) : Reply :=
  if s.pc.protect then s.reply .latched
  else
    match legOperand leg with
    | none => s.reply .range
    | some l =>
      if !s.admitted l then s.reply .absent
      else
        match tag with
        | none => s.reply .range
        | some t =>
          let queue := (s.queueOf l).entries
          match queue.find? fun e => e.tag == t.toNat with
          | none => s.reply .absent
          | some e =>
            if e.inUse then s.reply .busy
            else
              { state := s.setQueue l (queue.filter fun e => e.tag != t.toNat), status := .ok,
                payload := .bytes [1] }

/-- R98. -/
def doUnplanAll (s : State) (leg : Option Byte) : Reply :=
  if s.pc.protect then s.reply .latched
  else
    match legOperand leg with
    | none => s.reply .range
    | some l =>
      if !s.admitted l then s.reply .absent
      else
        let queue := (s.queueOf l).entries
        let kept := queue.filter Foothold.inUse
        { state := s.setQueue l kept, status := .ok,
          payload := .bytes [BitVec.ofNat 8 (queue.length - kept.length)] }

/-- R99, R100. -/
def doSwap (s : State) (leg : Option Byte) (bytes : List Byte) : Reply :=
  if s.pc.protect then s.reply .latched
  else
    match legOperand leg with
    | none => s.reply .range
    | some l =>
      if !s.admitted l then s.reply .absent
      else
        match entryOfBytes bytes with
        | none => s.reply .range
        | some (new, _) =>
          match (s.queueOf l).entries with
          | [] =>
            { state := s.setQueue l [new.clamped], status := clampStatus [new], payload := .bytes [0] }
          | head :: rest =>
            if head.inUse then s.reply .busy
            else if rest.any fun e => e.tag == new.tag then s.reply .duplicate
            else
              { state := s.setQueue l (new.clamped :: rest), status := clampStatus [new],
                payload := .bytes (1 :: entryBytes head) }

/-! ## Reflexes -/

/-- R140, ON: where RE1 rises at once and where it waits. -/
def reflexesOn (s : State) : State :=
  let s := { s with rxu.re2 := true }
  if s.rxu.re1 then s
  else
    match s.pc.body with
    | .walk => { s with rxu.waiting := true }
    | .recover => { s with rxu.waiting := true }
    | _ => s.enableRise

/-- R140, ON. -/
def doReflexesOn (s : State) : Reply :=
  if s.pc.protect then s.reply .latched else s.reflexesOn.reply .ok

/-- R140, OFF. -/
def doReflexesOff (s : State) : Reply :=
  if s.pc.protect then s.reply .latched
  else reply { s with rxu.re1 := false, rxu.re2 := false, rxu.waiting := false } .ok

/-- R157: the body state and walking state that the bottom context gives. -/
def resumeBottom (s : State) (ctx : Context) : State :=
  match ctx with
  | .walk leg index phase count dir _ =>
    resumeAsHold { s with ssq.count := count, ssq.dir := dir } leg index phase .resume
  | .hold next count dir =>
    setBody { s with ssq.next := next, ssq.count := count, ssq.dir := dir } .hold .resume
  | .unsettled => s.setBody .unsettled .resume
  | .reseat .unsettled _ _ _ _ _ => s.setBody .unsettled .resume
  | .reseat _ _ count dir _ _ =>
    let s := { s with ssq.count := count, ssq.dir := dir }
    let s := if 0 < count then s.postStride else s
    setBody { s with ssq.count := 0, ssq.next := none } .stand .resume
  | .stand => s.setBody .stand .resume
  | .recover _ => s

/-- R157: an accepted RESUME, in its order. -/
def resumeBody (s : State) : State :=
  let before := s.pc.body
  let bottom := s.rxu.stack.getLast?
  let s := { s with rxu.stack := [], rxu.re1 := s.rxu.re2, rxu.crouch := .clear, rxu.waiting := false,
                    rxu.running := none, rxu.crouching := .all false, scu.tipRaised := false }
  let s := s.removeEdges
  let s := match bottom with
    | some ctx => s.resumeBottom ctx
    | none => s
  let s := s.postNote (.reflex .resumed .tip none none 0)
  (s.bodySettled before).takePending

/-- R157. -/
def doResume (s : State) : Reply :=
  if s.pc.protect then s.reply .latched
  else
    match s.pc.body with
    | .rising => s.reply .busy
    | .lowering => s.reply .busy
    | _ =>
      match s.rxu.crouch with
      | .crouched => s.resumeBody.reply .ok
      | _ => s.reply .state

/-- R193: the answer comes first, the warm reset after its last byte. -/
def doReset (s : State) : Reply := reply { s with hli.resetTaken := true } .ok

end State

end Sys2Proof.Machine
end

