-- ==== Sys2Proof/Machine/Items.lean ====
section
/-! DEFINITION. The items of the host link: what an ASK returns and how a TELL is judged (R192 and the
owners' rules). -/

namespace Sys2Proof.Machine

/-- The time left on a running timer. -/
def timeLeft (period : Nat) (t : Timer) : Option Nat := t.map fun n => period - n

/-- The leg of a leg unit, 2 to 5. -/
def legOfUnit (unit : Nat) : Option Leg := if 2 ≤ unit then Leg.ofIndex? (unit - 2) else none

namespace State

/-! ## ASK -/

/-- Unit 1 (R71, R92, R176). -/
def bodyItem (s : State) : Nat → Option Payload
  | 0 => some (.item (.body s.pc.body))
  | 1 => some (.bytes (geometryBytes s.pc.geom s.pc.written))
  | 2 => some (.item (.odometer s.ssq.odometer))
  | 3 => some (.item (.mark s.pc.postureSafe))
  | 4 => some (.item (.mark s.pc.protect))
  | 5 => some (.item (.walking s.ssq.phase s.ssq.stepping s.ssq.index s.ssq.count s.ssq.dir s.ssq.next
      s.ssq.stopMark s.ssq.order s.ssq.latched))
  | 6 => some (.item (.placing s.pls.placement s.pls.sub s.pls.target s.pls.attempt s.pls.attemptTarget
      s.pls.reseat s.pls.origin s.pls.pass s.pls.reseatSet s.pls.reseatLeg))
  | 7 => some (.item (.marks (s.llc.map Link.withdrawn)))
  | _ => none

/-- Units 2 to 5 (R71, R176, R185). -/
def legItem (s : State) (l : Leg) : Nat → Option Payload
  | 0 =>
    let k := s.link l
    some (.item (.link k.link k.miss k.good k.missTotal k.last k.obstruct k.overload))
  | 1 => some (.item (.command (s.cmdOf l) (s.verifiedOf l)))
  | 2 =>
    let k := s.link l
    some (.item (.calibration k.calib (timeLeft k.calib.period k.calibTimer) k.firstDone))
  | 3 =>
    let k := s.tdu.legs.get l
    some (.item (.thermalLeg k.level (timeLeft 30000 k.hold) k.last))
  | _ => none

/-- Unit 6 (R123); the built-in defaults have no valid field and no limit. -/
def zoneItem (s : State) (item : Nat) : Option Payload :=
  if item = 16 then
    let e := s.ztb.entries[s.ztb.inForce]?
    some (.item (.zoneInForce s.ztb.inForce (e.map ZoneEntry.valid) (e.map ZoneEntry.limit) s.zone))
  else (s.ztb.entries[item]?).map fun e => .bytes (zoneBytes e)

/-- Unit 7 (R106, R107). -/
def queueItem (s : State) (item : Nat) : Option Payload :=
  match Leg.ofIndex? item with
  | some l => if s.admitted l then some (.bytes (queueBytes (s.queueOf l))) else none
  | none => none

/-- Unit 8 (R160): the stack bottom first. -/
def reflexItem (s : State) (item : Nat) : Option Payload :=
  match item with
  | 0 => some (.item (.enables s.rxu.re1 s.rxu.re2 s.rxu.waiting s.rxu.dropped))
  | 1 => some (.item (.pendingList s.rxu.pending))
  | 2 => some (.item (.stack (s.rxu.stack.reverse.map Context.shown)))
  | 3 => some (.item (.running (s.rxu.running.map Running.shown) s.rxu.crouch (timeLeft 1000 s.rxu.stageTimer)))
  | _ =>
    if 32 ≤ item then
      match Cause.ofCode? ((item - 32) / 4), Leg.ofIndex? ((item - 32) % 4) with
      | some c, some l => some (.item (.reflexItem ((s.rxu.table.get c).get l)))
      | _, _ => none
    else none

/-- Unit 9 (R134). -/
def windowItem (s : State) (item : Nat) : Option Payload :=
  (Leg.ofIndex? item).map fun l =>
    let k := s.slipOf l
    .item (.slipWindow k.start k.length k.fill (s.records l) k.newest k.lastThreshold k.slip k.lowForce k.steady)

/-- Unit 10 (R185). -/
def thermalItem (s : State) : Payload :=
  .item (.thermal s.tdu.body s.tdu.external s.tdu.lastSense s.tdu.run s.tdu.driving
    (s.tdu.legs.map ThermalLeg.level) (s.tdu.legs.map fun k => timeLeft 30000 k.hold)
    (s.tdu.legs.map ThermalLeg.last))

/-- Unit 11 (R42). The sway is that of the last recomputation (DEDUCED, log entry 22); the flags, the rejected count
and the last predicted margin are those of the moment (DESIGN CHOICE, log entry 49). -/
def supportItem (s : State) : Nat → Option Payload
  | 0 => some (.item (.attitude s.scu.dbar s.scu.attStale s.atp.since s.atp.rejected))
  | 1 => some (.item (.projection s.scu.p s.scu.pHeld s.scu.shift s.scu.h))
  | 2 => some (.item (.support s.scu.stance s.scu.margin))
  | 3 => some (.item (.predicted s.scu.predicted s.scu.predictedLeg))
  | 4 => some (.item (.sway s.scu.swayPublished))
  | 5 => some (.item (.tip s.scu.tipCondition s.scu.tipRaised s.scu.survey))
  | _ => none

/-- Unit 0 (R197). -/
def linkItem (s : State) : Nat → Option Payload
  | 0 => some (.item (.identification "QB40" 3))
  | 1 => some (.bytes (bytesOfNat 2 s.hli.mask.toNat))
  | 2 => some (.item (.bitRate (s.hli.rate.map BitRate.bitsPerSecond)))
  | _ => none

/-- R192: the content of a unit's item; none where the address is absent, or of a withdrawn leg. -/
def itemContent (s : State) (unit item : Nat) : Option Payload :=
  match unit with
  | 0 => s.linkItem item
  | 1 => s.bodyItem item
  | 6 => s.zoneItem item
  | 7 => s.queueItem item
  | 8 => s.reflexItem item
  | 9 => s.windowItem item
  | 10 => if item = 0 then some s.thermalItem else none
  | 11 => s.supportItem item
  | u =>
    match legOfUnit u with
    | some l => if s.admitted l then s.legItem l item else none
    | none => none

/-- R192: an ASK is served in every body state and under the latch. -/
def doAsk (s : State) (unit item : Byte) : Reply :=
  match s.itemContent unit.toNat item.toNat with
  | some p => { state := s, status := .ok, payload := p }
  | none => s.reply .absent

/-! ## TELL -/

/-- R4. -/
def tellGeometry (s : State) (payload : List Byte) : Reply :=
  if s.pc.protect then s.reply .latched
  else if s.pc.written then s.reply .once
  else
    match geometryOfBytes payload with
    | none => s.reply .range
    | some g =>
      if g.inRanges then reply { s with pc.geom := g, pc.written := true } .ok else s.reply .range

/-- R68. -/
def tellOdometer (s : State) (value : Int) : Reply :=
  if s.pc.protect then s.reply .latched
  else if 0 ≤ value ∧ value ≤ Config.odometerMax then
    (zoneLookup { s with ssq.odometer := value.toNat } .odometer).reply .ok
  else s.reply .range

end State

/-- R112: the limits of the valid entries strictly increase. -/
def limitsRise (entries : List ZoneEntry) : Bool :=
  decide (((entries.filter ZoneEntry.valid).map ZoneEntry.limit).Pairwise (· < ·))

/-- R119: the entry in force stays at least as cautious. -/
def atLeastAsCautious (old new : ZoneEntry) : Bool :=
  decide (new.params.stride ≤ old.params.stride ∧ old.params.clearance ≤ new.params.clearance ∧
    old.params.threshold ≤ new.params.threshold ∧ new.params.slipThreshold ≤ old.params.slipThreshold ∧
    new.limit = old.limit ∧ new.params.surface = old.params.surface ∧ new.params.order = old.params.order ∧
    new.params.swayLimit = old.params.swayLimit ∧ new.params.maxReplace = old.params.maxReplace ∧
    new.params.select = old.params.select)

namespace State

/-- R118: the body states that apply the lock. -/
def locks (s : State) : Bool :=
  s.pc.body == .walk || s.pc.body == .hold || s.pc.body == .recover

/-- R118, R119: the write passes the lock. -/
def passesLock (s : State) (index : Nat) (e : ZoneEntry) : Bool :=
  let copy := s.ztb.entries.set index e
  if lookupIn copy s.ssq.odometer = s.ztb.inForce then
    if s.ztb.inForce = index then
      match s.ztb.entries[index]? with
      | some old => atLeastAsCautious old e
      | none => true
    else true
  else false

/-- R110, R113; an index above 15 is no entry, and its data are discarded (R192). -/
def tellZone (s : State) (index : Nat) (payload : List Byte) : Reply :=
  if s.pc.protect then s.reply .latched
  else if 16 ≤ index then s.reply .ok
  else
    match zoneOfBytes payload with
    | none => s.reply .range
    | some e =>
      if !limitsRise (s.ztb.entries.set index e) then s.reply .order
      else if s.locks && !s.passesLock index e then s.reply .locked
      else (zoneLookup { s with ztb.entries := s.ztb.entries.set index e } .table).reply .ok

/-- R145; the payload's kind code and parameter. -/
def tellReflexItem (s : State) (code : Nat) (l : Leg) (item : Option (Nat × Nat)) : Reply :=
  if s.pc.protect then s.reply .latched
  else
    match Cause.ofCode? code with
    | none => s.reply .ok
    | some c =>
      match item with
      | none => s.reply .range
      | some (k, p) =>
        match Kind.ofCode? k with
        | none => s.reply .range
        | some kind =>
          if 150 < p then s.reply .range
          else
            reply { s with rxu.table := s.rxu.table.set c ((s.rxu.table.get c).set l ⟨kind, p⟩) } .ok

/-- R126: a slot of the new window is occupied by another leg's window. -/
def overlaps (s : State) (l : Leg) (start length : Nat) : Bool :=
  Leg.all.any fun k =>
    let w := s.slipOf k
    k != l && decide (0 < length ∧ 0 < w.length ∧ start < w.start + w.length ∧ w.start < start + length)

/-- R126, R127. -/
def tellWindow (s : State) (l : Leg) (payload : List Byte) : Reply :=
  if s.pc.protect then s.reply .latched
  else
    match windowOfBytes payload with
    | none => s.reply .range
    | some (start, length) =>
      if s.overlaps l start length then s.reply .overlap
      else
        reply { s with slm.legs := s.slm.legs.modify l fun k =>
          { k with start := start, length := length, fill := 0, next := start, newest := none } } .ok

/-- R197: served under the latch. -/
def tellMask (s : State) (payload : List Byte) : Reply :=
  match maskOfBytes payload with
  | none => s.reply .range
  | some m => reply { s with hli.mask := m } .ok

/-- R192: a TELL of a read-only or absent item. -/
def tellDiscard (s : State) (unit : Nat) : Reply :=
  if s.pc.protect then s.reply .latched
  else
    match legOfUnit unit with
    | some l => if s.admitted l then s.reply .ok else s.reply .absent
    | none => s.reply .ok

/-- R192: a TELL of any item. -/
def doTell (s : State) (unit item : Nat) (payload : List Byte) : Reply :=
  match unit, item with
  | 0, 1 => s.tellMask payload
  | 1, 1 => s.tellGeometry payload
  | 1, 2 => s.tellOdometer ((odometerOfBytes payload).getD (-1))
  | 6, i => s.tellZone i payload
  | 8, i =>
    if 32 ≤ i ∧ i ≤ 63 then
      match Leg.ofIndex? ((i - 32) % 4) with
      | some l => s.tellReflexItem ((i - 32) / 4) l (reflexItemOfBytes payload)
      | none => s.tellDiscard 8
    else s.tellDiscard 8
  | 9, i =>
    match Leg.ofIndex? i with
    | some l => s.tellWindow l payload
    | none => s.tellDiscard 9
  | u, _ => s.tellDiscard u

end State

end Sys2Proof.Machine
end

