-- ==== Sys2Proof/Machine/HostLink.lean ====
section
/-! DEFINITION. The Host Link Interface (11): rate detection, frames received, taken and judged, the
transmitter, SYNC; and the two resets (R20, R15). -/

namespace Sys2Proof.Machine

/-! ## Resets -/

/-- R15: every leg commanded HOLD where it is, or LIMP. The target and clearance restart at 0 (R72). -/
def LegCmd.afterReset (mode : LegMode) : LegCmd := { LegCmd.atReset with mode := mode }

namespace State

/-- R15, R20, R43, R72, R92, R108, R124, R135, R161, R177, R186, R198: the warm reset. The geometry record and
its mark, the posture-safe flag, the protect latch and the first-done flags are spared, and the commands
that wait. A warm-reset note still set gives way to this one (DESIGN CHOICE, log entry 58). -/
def warmReset (s : State) : State :=
  let body : BodyState := if s.pc.postureSafe then .rest else .unsettled
  let up := !s.pc.postureSafe
  { reset with
    pc := { Posture.powerUp with
            body := body, geom := s.pc.geom, written := s.pc.written, postureSafe := s.pc.postureSafe,
            protect := s.pc.protect, awaitFirst := .all up },
    scu := { Support.atReset s.pc.geom with
             survey := up, surveyTimer := if up then some 0 else none },
    ssq := { Strider.atReset with cmd := .all (LegCmd.afterReset (if up then .hold else .limp)) },
    llc := s.llc.map fun k => Link.atReset k.firstDone,
    hli := HostLink.atReset (some (s.pc.body, body)),
    pending := s.pending }

/-- R20: power applied. -/
def powerUp (s : State) : State := { reset with pending := s.pending }

/-! ## SYNC -/

/-- R188: entry to SYNC by a long break; a DO RESET whose ANSWER is cut off takes effect now (R193). -/
def enterSync (s : State) : State :=
  if s.hli.resetTaken then s.warmReset
  else
    { s with hli.link := .sync, hli.rate := none, hli.measured := none, hli.receiver := none, hli.input := [],
             hli.slot := none, hli.notes := [], hli.lost := false, hli.tx := .free, hli.lineOut := none }

end State

/-- R187: the bit time of a rate, in picoseconds. -/
def BitRate.bitTime : BitRate → Nat
  | .r115200 => 8680000
  | .r230400 => 4340000
  | .r460800 => 2170000
  | .r921600 => 1085000

/-- R187: a low run of some nanoseconds, divided by 5, lies within 3% of the rate's bit time, the ends
included (DESIGN CHOICE, log entry 17). -/
def BitRate.fits (r : BitRate) (ns : Nat) : Bool :=
  decide (((ns * 1000 : Int) - 5 * r.bitTime).natAbs * 100 ≤ 15 * r.bitTime)

def rateOfRun (ns : Nat) : Option BitRate :=
  [BitRate.r115200, .r230400, .r460800, .r921600].find? fun r => r.fits ns

namespace State

/-- R187, R188: a rate locked: C3h sent, FRAMED, and the warm reset's BODY note first in the queue. -/
def lock (s : State) (r : BitRate) : State :=
  let warm := s.hli.warmNote
  let s := { s with hli.link := .framed, hli.rate := some r, hli.receiver := none, hli.lineOut := some [0xC3],
                    hli.warmNote := none }
  match warm with
  | some (old, new) => s.postNote (.body old new .reset)
  | none => s

/-- R187: a low run measured in SYNC. -/
def lowRun (s : State) (ns : Nat) : State :=
  match s.hli.link with
  | .framed => s
  | .sync =>
    match rateOfRun ns with
    | none => { s with hli.measured := none }
    | some r => if s.hli.measured = some r then s.lock r else { s with hli.measured := some r }

/-! ## Judging -/

/-- R193: the action of a code, its operands taken from the payload. -/
def judgeDo (s : State) (action : Nat) (p : List Byte) : Reply :=
  match action with
  | 1 => s.doRise
  | 2 => s.doSettle
  | 3 => s.doStride p[0]? p[1]?
  | 4 => s.doStop
  | 5 => s.doContinue
  | 6 => s.doReseat
  | 7 => s.doCalibrate p[0]?
  | 8 => s.doWithdraw p[0]?
  | 9 => s.doAdmit p[0]?
  | 10 => s.doPlan p[0]? p[1]? (p.drop 2)
  | 11 =>
    match (p[1]? : Option Byte) with
    | some 0 => s.doUnplan p[0]? p[2]?
    | some _ => s.doUnplanAll p[0]?
    | none => s.doUnplan p[0]? none
  | 12 => s.doSwap p[0]? (p.drop 1)
  | 13 =>
    match (p[0]? : Option Byte) with
    | some 1 => s.doReflexesOn
    | some 0 => s.doReflexesOff
    | _ => if s.pc.protect then s.reply .latched else s.reply .range
  | 14 => s.doResume
  | 15 => s.doReset
  | _ => s.reply .unknown

/-- R191: the judgement of a frame. -/
def judgeFrame (s : State) (f : Frame) : Reply :=
  match f.kind.toNat, f.address with
  | 1, [unit, item] => s.doAsk unit item
  | 2, [unit, item] => s.doTell unit.toNat item.toNat f.payload
  | 3, [action] => s.judgeDo action.toNat f.payload
  | _, _ => s.reply .unknown

/-- R191: the ANSWER of one message, placed in the slot in the event of its taking. -/
def answer (s : State) (seq : Byte) (f : State → Reply) : State :=
  let r := f s
  { r.state with hli.slot := some { seq := seq, status := r.status, payload := r.payload } }

/-- A message reaches its judgement where the HLI may take one; where it may not, nothing changes
(DESIGN CHOICE, log entry 1). -/
def respond (s : State) (seq : Byte) (f : State → Reply) : State :=
  if s.mayTakeFrame then s.answer seq f else s

/-- R191: the oldest frame taken and judged. -/
def takeFrame (s : State) : State :=
  if s.mayTakeFrame then
    match s.hli.input with
    | f :: rest => answer { s with hli.input := rest } f.seq fun s => s.judgeFrame f
    | [] => s
  else s

/-! ## Receiving -/

/-- R190, R191: a complete frame with a good CRC. -/
def acceptFrame (s : State) (f : Frame) : State :=
  if s.hli.input.length < Config.inputQueueCapacity then
    takeFrame { s with hli.input := s.hli.input ++ [f] }
  else s.postFault .linkOverrun none

/-- R189: the bytes of a complete frame. -/
def frameComplete (s : State) (bytes : List Byte) : State :=
  let s := { s with hli.receiver := none }
  match decodeFrame bytes with
  | some f => s.acceptFrame f
  | none => s

/-- R189: one byte. -/
def receiveByte (s : State) (b : Byte) : State :=
  match s.hli.link with
  | .sync => s
  | .framed =>
    match s.hli.receiver with
    | none => if b = 0xA5 then { s with hli.receiver := some [b] } else s
    | some soFar =>
      let bytes := soFar ++ [b]
      if bytes.length = 2 ∧ 200 < b.toNat then { s with hli.receiver := none }
      else if frameLength? bytes = some bytes.length then s.frameComplete bytes
      else { s with hli.receiver := some bytes }

/-- R189: the frame in progress is discarded. -/
def dropFrame (s : State) : State :=
  match s.hli.link with
  | .sync => s
  | .framed => { s with hli.receiver := none }

/-! ## The transmitter -/

/-- R196, R195: a free transmitter begins the ANSWER in the slot, or else the oldest note. -/
def transmitStart (s : State) : State :=
  match s.hli.link, s.hli.tx, s.hli.slot, s.hli.notes with
  | .framed, .free, some a, _ => { s with hli.tx := .answer a, hli.lineOut := (Transmitter.answer a).bytes? }
  | .framed, .free, none, n :: rest =>
    { s with hli.tx := .note n s.hli.lost, hli.lost := false, hli.notes := rest,
             hli.lineOut := (Transmitter.note n s.hli.lost).bytes? }
  | _, _, _, _ => s

/-- R196, R191, R193: the last byte of a frame has been sent. -/
def transmitDone (s : State) : State :=
  match s.hli.tx with
  | .free => s
  | .note _ _ => { s with hli.tx := .free }
  | .answer _ =>
    if s.hli.resetTaken then s.warmReset else takeFrame { s with hli.tx := .free, hli.slot := none }

end State

end Sys2Proof.Machine
end

