-- ==== Sys2Proof/Machine/ExecActions.lean ====
section
/-! DEFINITION. The meanings of the DO actions. -/

namespace Sys2Proof.Machine

/-- R6. -/
def execRise (seq : Byte) (s : State) : Host.Outcome State Fault Refusal :=
  .next (s.respond seq fun s => s.doRise)

/-- R11. -/
def execSettle (seq : Byte) (s : State) : Host.Outcome State Fault Refusal :=
  .next (s.respond seq fun s => s.doSettle)

/-- R48. -/
def execStride (seq count dir : Byte) (s : State) : Host.Outcome State Fault Refusal :=
  .next (s.respond seq fun s => s.doStride (some count) (some dir))

/-- R66, R67. -/
def execStop (seq : Byte) (s : State) : Host.Outcome State Fault Refusal :=
  .next (s.respond seq fun s => s.doStop)

/-- R65. -/
def execContinueWalk (seq : Byte) (s : State) : Host.Outcome State Fault Refusal :=
  .next (s.respond seq fun s => s.doContinue)

/-- R85. -/
def execReseat (seq : Byte) (s : State) : Host.Outcome State Fault Refusal :=
  .next (s.respond seq fun s => s.doReseat)

/-- R170. -/
def execCalibrate (seq leg : Byte) (s : State) : Host.Outcome State Fault Refusal :=
  .next (s.respond seq fun s => s.doCalibrate (some leg))

/-- R173. -/
def execWithdraw (seq leg : Byte) (s : State) : Host.Outcome State Fault Refusal :=
  .next (s.respond seq fun s => s.doWithdraw (some leg))

/-- R175. -/
def execAdmitLeg (seq leg : Byte) (s : State) : Host.Outcome State Fault Refusal :=
  .next (s.respond seq fun s => s.doAdmit (some leg))

/-- R95. -/
def execPlan (seq leg count : Byte) (entries : List Byte) (s : State) : Host.Outcome State Fault Refusal :=
  .next (s.respond seq fun s => s.doPlan (some leg) (some count) entries)

/-- R97. -/
def execUnplan (seq leg tag : Byte) (s : State) : Host.Outcome State Fault Refusal :=
  .next (s.respond seq fun s => s.doUnplan (some leg) (some tag))

/-- R98. -/
def execUnplanAll (seq leg : Byte) (s : State) : Host.Outcome State Fault Refusal :=
  .next (s.respond seq fun s => s.doUnplanAll (some leg))

/-- R99. -/
def execSwap (seq leg : Byte) (entry : List Byte) (s : State) : Host.Outcome State Fault Refusal :=
  .next (s.respond seq fun s => s.doSwap (some leg) entry)

/-- R140. -/
def execReflexesOn (seq : Byte) (s : State) : Host.Outcome State Fault Refusal :=
  .next (s.respond seq fun s => s.doReflexesOn)

/-- R140. -/
def execReflexesOff (seq : Byte) (s : State) : Host.Outcome State Fault Refusal :=
  .next (s.respond seq fun s => s.doReflexesOff)

/-- R157. -/
def execResume (seq : Byte) (s : State) : Host.Outcome State Fault Refusal :=
  .next (s.respond seq fun s => s.doResume)

/-- R193. -/
def execReset (seq : Byte) (s : State) : Host.Outcome State Fault Refusal :=
  .next (s.respond seq fun s => s.doReset)

end Sys2Proof.Machine
end

