-- ==== Sys2Proof/Machine/ExecAttitude.lean ====
section
/-! DEFINITION. The meanings of the attitude port's events and of the times without a sample (02). -/

namespace Sys2Proof.Machine

namespace State

/-- R22: a rejected or failed sample. -/
def rejectSample (s : State) : State := { s with atp.rejected := countUp 65535 s.atp.rejected }

/-- R23, R24, R26: an accepted sample enters the slots and ends staleness; the SCU recomputes, and the SSQ
has its sway-step event. -/
def acceptSample (s : State) (v : Sample) : State :=
  let slots := Slots.push s.atp.slots v
  let s := { s with atp.slots := some slots, atp.since := 0, scu.dbar := slots.average, scu.attStale := false,
                    scu.tipStale := false }
  s.recomputeTest.swayEvent

/-- R24: 20 ms without an accepted sample. -/
def setStale (s : State) : State :=
  let s := { s with atp.since := max 20 s.atp.since }
  if s.scu.attStale then s else postFault { s with scu.attStale := true } .attStale none

end State

/-- R21: a data-ready; a read still in progress has failed. -/
def execAttitudeDataReady (s : State) : Host.Outcome State Fault Refusal :=
  .next { (if s.atp.reading then s.rejectSample else s) with atp.reading := true }

/-- R21, R22: a read that completes with a sample, or fails (none). DESIGN CHOICE, log entry 26: it is taken
whether or not a read stands in progress. -/
def execSampleRead (sample : Option Sample) (s : State) : Host.Outcome State Fault Refusal :=
  let s := { s with atp.reading := false }
  .next (match sample with
    | some v => if sampleAccepted v then s.acceptSample v else s.rejectSample
    | none => s.rejectSample)

/-- R24. -/
def execStaleTimeout (s : State) : Host.Outcome State Fault Refusal := .next s.setStale

/-- R25, R40: the staleness condition of TIP holds, and the condition is tested. The 20 ms have passed too
(log entry 25). -/
def execTipStaleTimeout (s : State) : Host.Outcome State Fault Refusal :=
  let s := s.setStale
  .next (State.tipTest { s with atp.since := max 200 s.atp.since, scu.tipStale := true })

end Sys2Proof.Machine
end

