-- ==== Sys2Proof/Machine/ExecHost.lean ====
section
/-! DEFINITION. The meanings of the resets, the host line and the transmitter. -/

namespace Sys2Proof.Machine

/-- R20. -/
def execPowerUpReset (s : State) : Host.Outcome State Fault Refusal := .next s.powerUp

/-- R15. -/
def execWarmReset (s : State) : Host.Outcome State Fault Refusal := .next s.warmReset

/-- R187. -/
def execLowRunMeasured (ns : Nat) (s : State) : Host.Outcome State Fault Refusal := .next (s.lowRun ns)

/-- R188: the line held low for 10 ms or more. -/
def execHostLineBreak (s : State) : Host.Outcome State Fault Refusal :=
  .next (match s.hli.link with
    | .framed => s.enterSync
    | .sync => s)

/-- R189: the bytes of a frame, all of them received (log entry 24). -/
def execHostFrameComplete (frame : List Byte) (s : State) : Host.Outcome State Fault Refusal :=
  .next (match s.hli.link with
    | .framed => s.frameComplete frame
    | .sync => s)

/-- R189: 20 ms between two bytes of a frame. -/
def execHostFrameByteTimeout (s : State) : Host.Outcome State Fault Refusal := .next s.dropFrame

/-- R189. -/
def execHostByteFramingError (s : State) : Host.Outcome State Fault Refusal := .next s.dropFrame

/-- R189: the line held low for 20 bit times or more. -/
def execHostLineLow20Bits (s : State) : Host.Outcome State Fault Refusal := .next s.dropFrame

/-- R189. -/
def execHostByteReceived (byte : Byte) (s : State) : Host.Outcome State Fault Refusal :=
  .next (s.receiveByte byte)

/-- R191. -/
def execTakeFrame (s : State) : Host.Outcome State Fault Refusal := .next s.takeFrame

/-- R196. -/
def execTransmitStart (s : State) : Host.Outcome State Fault Refusal := .next s.transmitStart

/-- R196. -/
def execTransmitDone (s : State) : Host.Outcome State Fault Refusal := .next s.transmitDone

end Sys2Proof.Machine
end

