-- ==== Sys2Proof/Machine/ExecItems.lean ====
section
/-! DEFINITION. The meanings of ASK and the TELLs. -/

namespace Sys2Proof.Machine

/-- R192. -/
def execAsk (seq unit item : Byte) (s : State) : Host.Outcome State Fault Refusal :=
  .next (s.respond seq fun s => s.doAsk unit item)

/-- R192: the TELL of the item named, its payload empty. -/
def execTellReadOnly (seq unit item : Byte) (s : State) : Host.Outcome State Fault Refusal :=
  .next (s.respond seq fun s => s.doTell unit.toNat item.toNat [])

/-- R4. -/
def execTellGeometry (seq : Byte) (payload : List Byte) (s : State) : Host.Outcome State Fault Refusal :=
  .next (s.respond seq fun s => s.tellGeometry payload)

/-- R68. -/
def execTellOdometer (seq : Byte) (value : Int) (s : State) : Host.Outcome State Fault Refusal :=
  .next (s.respond seq fun s => s.tellOdometer value)

/-- R110. -/
def execTellZoneEntry (seq index : Byte) (payload : List Byte) (s : State) : Host.Outcome State Fault Refusal :=
  .next (s.respond seq fun s => s.tellZone index.toNat payload)

/-- R145. -/
def execTellReflexTable (seq : Byte) (code : Nat) (leg : Leg) (kind param : Nat) (s : State) :
    Host.Outcome State Fault Refusal :=
  .next (s.respond seq fun s => s.tellReflexItem code leg (some (kind, param)))

/-- R126. -/
def execTellSlipWindow (seq : Byte) (leg : Leg) (payload : List Byte) (s : State) :
    Host.Outcome State Fault Refusal :=
  .next (s.respond seq fun s => s.tellWindow leg payload)

/-- R197. -/
def execTellNoteMask (seq : Byte) (payload : List Byte) (s : State) : Host.Outcome State Fault Refusal :=
  .next (s.respond seq fun s => s.tellMask payload)

end Sys2Proof.Machine
end

