-- ==== Sys2Proof/Machine/ExecLegLinks.lean ====
section
/-! DEFINITION. The meanings of the leg links' events and of the calibration timers (09). -/

namespace Sys2Proof.Machine

/-- R162: the refresh is sent, or waits for the end of the exchange. Before the first command the timer is
stopped (R177). -/
def execLegRefreshDue (l : Leg) (s : State) : Host.Outcome State Fault Refusal :=
  .next (if (s.link l).refresh.isSome then s.handToLink l else s)

/-- R162: a command record goes out; not while a report is awaited. -/
def execLegCommandSend (l : Leg) (s : State) : Host.Outcome State Fault Refusal :=
  .next (s.handToLink l)

/-- R163, R164: a record that ends an exchange; one that finds the exchange idle is discarded. -/
def execLegReportArrival (l : Leg) (record : List Byte) (s : State) : Host.Outcome State Fault Refusal :=
  .next (if (s.link l).awaiting then (s.judgeRecord l record).endExchange l else s)

/-- R163: the report timer; a miss. -/
def execLegReportTimeout (l : Leg) (s : State) : Host.Outcome State Fault Refusal :=
  .next (if (s.link l).awaiting then (s.missReport l).endExchange l else s)

/-- R172: the 3 s timer. -/
def execCalibTimeout (l : Leg) (s : State) : Host.Outcome State Fault Refusal :=
  .next (match (s.link l).calib with
    | .awaitBusy => s.calibFail l
    | .awaitDone => s.calibFail l
    | _ => s)

/-- R171: the settle ends: the calibration is done. -/
def execCalibSettleEnd (l : Leg) (s : State) : Host.Outcome State Fault Refusal :=
  .next (match (s.link l).calib with
    | .settle =>
      let s := { s with llc := s.llc.modify l fun k => { k with firstDone := true } }
      (s.calibEnd l).postNote (.calib l .done)
    | _ => s)

end Sys2Proof.Machine
end

