-- ==== Sys2Proof/Machine/ExecThermal.lean ====
section
/-! DEFINITION. The meanings of the thermal unit's events (10). -/

namespace Sys2Proof.Machine

namespace State

/-- R183: external hot changed by a run of two equal senses. -/
def setExternal (s : State) (hot : Bool) : State :=
  if s.tdu.external = hot then s else reformLevel { s with tdu.external := hot } .external

/-- R183: one sense of the line. -/
def sense (s : State) (asserted : Bool) : State :=
  let run := if s.tdu.lastSense = some asserted then min 2 (s.tdu.run + 1) else 1
  let s := { s with tdu.lastSense := some asserted, tdu.run := run }
  if run = 2 then s.setExternal asserted else s

end State

/-- R179, R180: the hold of a leg runs out; it makes no fall while the leg's link is not OK. -/
def execHoldTimerExpiry (l : Leg) (s : State) : Host.Outcome State Fault Refusal :=
  .next (if (s.tdu.legs.get l).hold.isSome then
      let s := { s with tdu.legs := s.tdu.legs.modify l fun k => { k with hold := none } }
      if s.linkOk l then s.levelFall l else s
    else s)

/-- R183: the end of a sense window. A sense in a drive window changes nothing, and each one given in a sense window
counts (DESIGN CHOICE, log entry 57). -/
def execHotzSense (asserted : Bool) (s : State) : Host.Outcome State Fault Refusal :=
  .next (match s.tdu.window with
    | .sense => s.sense asserted
    | .drive => s)

/-- R184: the start of a drive window. Given in one, it decides the drive again (DESIGN CHOICE, log entry 57). -/
def execHotzDriveWindow (s : State) : Host.Outcome State Fault Refusal :=
  .next { s with tdu.window := .drive, tdu.driving := decide (2 ≤ s.greatestLevel) }

/-- R184: the end of a drive window; in a sense window it changes nothing but the driver's release (DESIGN CHOICE, log
entry 57). -/
def execDriveWindowEnd (s : State) : Host.Outcome State Fault Refusal :=
  .next { s with tdu.window := .sense, tdu.driving := false }

end Sys2Proof.Machine
end

