-- ==== Sys2Proof/Machine/ExecTimeouts.lean ====
section
/-! DEFINITION. The meanings of the expiries of the body's, the walk's, the placement's and the reflexes' timers.
An expiry of an operation that is not under way changes nothing (DESIGN CHOICE, log entries 2 and 4). -/

namespace Sys2Proof.Machine

/-- R41. -/
def execSurveyTimeout (s : State) : Host.Outcome State Fault Refusal :=
  .next (if s.scu.survey then s.endSurvey else s)

/-- R9: RISE_FAIL, and a lowering. -/
def execRiseTimeout (s : State) : Host.Outcome State Fault Refusal :=
  .next (match s.pc.body with
    | .rising => (s.postFault .riseFail none).beginLowering .timeout
    | _ => s)

/-- R13. -/
def execLoweringTimeout (s : State) : Host.Outcome State Fault Refusal :=
  .next (match s.pc.body with
    | .lowering => (s.postFault .settleTimeout none).endLowering .timeout
    | _ => s)

/-- R57, R89, R91: the stall timer of a SHIFT. -/
def execShiftStall (s : State) : Host.Outcome State Fault Refusal :=
  .next (match s.ssq.phase, s.ssq.stepping with
    | .shift, some l => if s.pc.protect then s else s.shiftFailed .stall l
    | _, _ => s)

/-- R59: the swing timer. -/
def execSwingTimeout (s : State) : Host.Outcome State Fault Refusal :=
  .next (match s.ssq.phase, s.ssq.stepping with
    | .swing, some l => if s.pc.protect then s else s.swingTimedOut l
    | _, _ => s)

/-- R62: the propel timer. -/
def execPropelStall (s : State) : Host.Outcome State Fault Refusal :=
  .next (match s.ssq.phase with
    | .propel => if s.pc.protect then s else s.propelStalled
    | _ => s)

/-- R64. -/
def execPauseEnd (s : State) : Host.Outcome State Fault Refusal :=
  .next (match s.ssq.phase with
    | .pause => if s.pc.protect then s else s.boundary .pause
    | _ => s)

/-- R76, R82: the place timer. -/
def execPlaceTimeout (s : State) : Host.Outcome State Fault Refusal :=
  .next (match s.pls.placement, s.pls.sub with
    | some l, .lower =>
      if s.pc.protect then s
      else if (s.link l).link = .lost then s.placeExhausted l
      else s.placeUnverified l
    | _, _ => s)

/-- R80, R82: the reswing timer. -/
def execReswingTimeout (s : State) : Host.Outcome State Fault Refusal :=
  .next (match s.pls.placement, s.pls.sub with
    | some l, .reswing =>
      if s.pc.protect then s
      else if (s.link l).link = .lost then s.placeExhausted l
      else if s.takesAtOnce l then s.raiseCause .obstruct l
      else (s.raiseCause .obstruct l).lowerAgain l
    | _, _ => s)

/-- R128. -/
def execSteadyTimeout (l : Leg) (s : State) : Host.Outcome State Fault Refusal :=
  .next { s with slm.legs := s.slm.legs.modify l fun k => { k with steady := true, steadyTimer := none } }

/-- R149: WAIT completes. -/
def execBraceTimeout (s : State) : Host.Outcome State Fault Refusal :=
  .next (match s.rxu.running with
    | some r => if r.stage = .wait ∧ s.pc.protect = false then s.stageDone else s
    | none => s)

/-- R156, R17: CROUCHED, and the protect latch if fewer than three crouching legs carry load. -/
def execCrouchTimeout (s : State) : Host.Outcome State Fault Refusal :=
  .next (if s.rxu.crouch = .running ∧ s.pc.protect = false then
      let loaded := Leg.all.filter fun l => s.rxu.crouching.get l && s.loadedAt s.contactInForce l
      let s := s.crouched .timeout
      if loaded.length < 3 then s.setProtect else s
    else s)

/-- R147: the swing timer of a LIFT. -/
def execRetractLiftTimeout (s : State) : Host.Outcome State Fault Refusal :=
  .next (match s.rxu.running with
    | some r => if r.stage = .lift ∧ s.pc.protect = false then s.liftTimedOut else s
    | none => s)

end Sys2Proof.Machine
end

