-- ==== Sys2Proof/Machine/Dispatch.lean ====
section
/-! DEFINITION. One arm for each command: a direct call of its meaning. -/

namespace Sys2Proof.Machine

def exec (i : Instr) (s : State) : Host.Outcome State Fault Refusal :=
  match i with
  | .powerUpReset => Sys2Proof.Machine.execPowerUpReset s
  | .warmReset => Sys2Proof.Machine.execWarmReset s
  | .lowRunMeasured ns => Sys2Proof.Machine.execLowRunMeasured ns s
  | .hostLineBreak => Sys2Proof.Machine.execHostLineBreak s
  | .hostFrameComplete frame => Sys2Proof.Machine.execHostFrameComplete frame s
  | .hostFrameByteTimeout => Sys2Proof.Machine.execHostFrameByteTimeout s
  | .hostByteFramingError => Sys2Proof.Machine.execHostByteFramingError s
  | .hostLineLow20Bits => Sys2Proof.Machine.execHostLineLow20Bits s
  | .takeFrame => Sys2Proof.Machine.execTakeFrame s
  | .transmitStart => Sys2Proof.Machine.execTransmitStart s
  | .transmitDone => Sys2Proof.Machine.execTransmitDone s
  | .ask seq unit item => Sys2Proof.Machine.execAsk seq unit item s
  | .tellReadOnly seq unit item => Sys2Proof.Machine.execTellReadOnly seq unit item s
  | .tellGeometry seq payload => Sys2Proof.Machine.execTellGeometry seq payload s
  | .tellOdometer seq value => Sys2Proof.Machine.execTellOdometer seq value s
  | .tellZoneEntry seq index payload => Sys2Proof.Machine.execTellZoneEntry seq index payload s
  | .tellReflexTable seq code leg kind param => Sys2Proof.Machine.execTellReflexTable seq code leg kind param s
  | .tellSlipWindow seq leg payload => Sys2Proof.Machine.execTellSlipWindow seq leg payload s
  | .tellNoteMask seq payload => Sys2Proof.Machine.execTellNoteMask seq payload s
  | .rise seq => Sys2Proof.Machine.execRise seq s
  | .settle seq => Sys2Proof.Machine.execSettle seq s
  | .stride seq count dir => Sys2Proof.Machine.execStride seq count dir s
  | .stop seq => Sys2Proof.Machine.execStop seq s
  | .continueWalk seq => Sys2Proof.Machine.execContinueWalk seq s
  | .reseat seq => Sys2Proof.Machine.execReseat seq s
  | .calibrate seq leg => Sys2Proof.Machine.execCalibrate seq leg s
  | .withdraw seq leg => Sys2Proof.Machine.execWithdraw seq leg s
  | .admitLeg seq leg => Sys2Proof.Machine.execAdmitLeg seq leg s
  | .plan seq leg count entries => Sys2Proof.Machine.execPlan seq leg count entries s
  | .unplan seq leg tag => Sys2Proof.Machine.execUnplan seq leg tag s
  | .unplanAll seq leg => Sys2Proof.Machine.execUnplanAll seq leg s
  | .swap seq leg entry => Sys2Proof.Machine.execSwap seq leg entry s
  | .reflexesOn seq => Sys2Proof.Machine.execReflexesOn seq s
  | .reflexesOff seq => Sys2Proof.Machine.execReflexesOff seq s
  | .resume seq => Sys2Proof.Machine.execResume seq s
  | .reset seq => Sys2Proof.Machine.execReset seq s
  | .attitudeDataReady => Sys2Proof.Machine.execAttitudeDataReady s
  | .sampleRead sample => Sys2Proof.Machine.execSampleRead sample s
  | .staleTimeout => Sys2Proof.Machine.execStaleTimeout s
  | .tipStaleTimeout => Sys2Proof.Machine.execTipStaleTimeout s
  | .surveyTimeout => Sys2Proof.Machine.execSurveyTimeout s
  | .riseTimeout => Sys2Proof.Machine.execRiseTimeout s
  | .loweringTimeout => Sys2Proof.Machine.execLoweringTimeout s
  | .shiftStall => Sys2Proof.Machine.execShiftStall s
  | .swingTimeout => Sys2Proof.Machine.execSwingTimeout s
  | .propelStall => Sys2Proof.Machine.execPropelStall s
  | .pauseEnd => Sys2Proof.Machine.execPauseEnd s
  | .placeTimeout => Sys2Proof.Machine.execPlaceTimeout s
  | .reswingTimeout => Sys2Proof.Machine.execReswingTimeout s
  | .steadyTimeout leg => Sys2Proof.Machine.execSteadyTimeout leg s
  | .braceTimeout => Sys2Proof.Machine.execBraceTimeout s
  | .crouchTimeout => Sys2Proof.Machine.execCrouchTimeout s
  | .retractLiftTimeout => Sys2Proof.Machine.execRetractLiftTimeout s
  | .legRefreshDue leg => Sys2Proof.Machine.execLegRefreshDue leg s
  | .legCommandSend leg => Sys2Proof.Machine.execLegCommandSend leg s
  | .legReportArrival leg record => Sys2Proof.Machine.execLegReportArrival leg record s
  | .legReportTimeout leg => Sys2Proof.Machine.execLegReportTimeout leg s
  | .calibTimeout leg => Sys2Proof.Machine.execCalibTimeout leg s
  | .calibSettleEnd leg => Sys2Proof.Machine.execCalibSettleEnd leg s
  | .holdTimerExpiry leg => Sys2Proof.Machine.execHoldTimerExpiry leg s
  | .hotzSense asserted => Sys2Proof.Machine.execHotzSense asserted s
  | .hotzDriveWindow => Sys2Proof.Machine.execHotzDriveWindow s
  | .hostByteReceived byte => Sys2Proof.Machine.execHostByteReceived byte s
  | .driveWindowEnd => Sys2Proof.Machine.execDriveWindowEnd s

end Sys2Proof.Machine
end

