-- ==== Sys2Proof/Safety.lean ====
section
/-! DEFINITION. What a sound state is, block by block, and what may take a body state, a latch or a lift from one
state to the next. The statements in Certificates are about these. -/

namespace Sys2Proof.Machine

/-! ## Legs -/

/-- A leg in SWING or PLACING (R46). -/
def State.inAir (s : State) (l : Leg) : Prop := s.modeOf l = .swing ∨ s.modeOf l = .placing

/-- R46: at most one leg is in SWING or PLACING. -/
def OneLegInAir (s : State) : Prop := ∀ k l : Leg, s.inAir k → s.inAir l → k = l

/-- R27: a leg is in the stance set exactly when its mode is STANCE, its flag is set, its link is OK and it is not
withdrawn. -/
def StanceSetCurrent (s : State) : Prop :=
  ∀ l : Leg, s.inStance l = true ↔
    s.modeOf l = .stance ∧ s.verifiedOf l = true ∧ (s.link l).link = .ok ∧ (s.link l).withdrawn = false

/-- R45: every component of every commanded target lies in -2000..2000. -/
def TargetsInRange (s : State) : Prop :=
  ∀ l : Leg, -2000 ≤ (s.cmdOf l).target.x ∧ (s.cmdOf l).target.x ≤ 2000 ∧ -2000 ≤ (s.cmdOf l).target.y ∧
    (s.cmdOf l).target.y ≤ 2000 ∧ -2000 ≤ (s.cmdOf l).target.z ∧ (s.cmdOf l).target.z ≤ 2000

/-! ## Posture -/

/-- R14: the posture-safe flag is set exactly in REST. -/
def SafeOnlyLyingDown (s : State) : Prop := s.pc.postureSafe = true ↔ s.pc.body = .rest

/-! ## Lists -/

/-- The capacities of R190, R194, R143, R109 and R125. -/
def WithinCapacities (s : State) : Prop :=
  s.hli.input.length ≤ 4 ∧ s.hli.notes.length ≤ 16 ∧ s.rxu.stack.length ≤ 4 ∧ s.ztb.entries.length = 16 ∧
    s.slm.store.length = 64

/-- R138, R139: no cause stands twice against one leg; the condition of every level entry holds; no entry stands
against a withdrawn leg. -/
def PendingSound (s : State) : Prop :=
  s.rxu.pending.Nodup ∧
    ∀ e ∈ s.rxu.pending, (e.cause = .slip → (s.slipOf e.leg).slip = true) ∧
      (e.cause = .overload → (s.link e.leg).overload = true) ∧ (s.link e.leg).withdrawn = false

/-- R93, R94, R95, R101: at most eight entries, their tags different, values within the limits of R94, and none in
use but the head. -/
def QueueSound (q : FootholdQueue) : Prop :=
  q.entries.length ≤ 8 ∧ (q.entries.map Foothold.tag).Nodup ∧ (∀ e ∈ q.entries.tail, e.inUse = false) ∧
    ∀ e ∈ q.entries, e.clamped = e ∧ e.alternates.length ≤ 3

def FootholdsSound (s : State) : Prop := ∀ l : Leg, QueueSound (s.queueOf l)

/-! ## Zones and walking -/

/-- R109 to R114: sixteen entries in range with rising limits, and the index in force is what a lookup finds. -/
def ZonesSound (s : State) : Prop :=
  s.ztb.entries.length = 16 ∧ (∀ e ∈ s.ztb.entries, e.params.inRanges = true ∧ e.limit < 16777216) ∧
    limitsRise s.ztb.entries = true ∧ s.ztb.inForce = lookupIn s.ztb.entries s.ssq.odometer

/-- R38, R37: the sway limit latched and every sway limit of the table is at most 150, and so is the sway. -/
def SwayBounded (s : State) : Prop :=
  (∀ e ∈ s.ztb.entries, 0 ≤ e.params.swayLimit ∧ e.params.swayLimit ≤ 150) ∧
    0 ≤ s.ssq.latched.swayLimit ∧ s.ssq.latched.swayLimit ≤ 150 ∧
    s.scu.sway.x.natAbs ≤ 150 ∧ s.scu.sway.y.natAbs ≤ 150

/-! ## Slip windows -/

/-- R125: a window inside the store, its fill count within its length, its next slot within the window. -/
def WindowSound (k : SlipLeg) : Prop :=
  k.length ≤ 16 ∧ k.start + k.length ≤ 64 ∧ k.fill ≤ k.length ∧ k.start ≤ k.next ∧
    (0 < k.length → k.next < k.start + k.length)

/-- R126: no slot of the store is occupied by two windows. -/
def WindowsSound (s : State) : Prop :=
  (∀ l : Leg, WindowSound (s.slipOf l)) ∧
    ∀ k l : Leg, k ≠ l → 0 < (s.slipOf k).length → 0 < (s.slipOf l).length →
      (s.slipOf k).start + (s.slipOf k).length ≤ (s.slipOf l).start ∨
        (s.slipOf l).start + (s.slipOf l).length ≤ (s.slipOf k).start

/-! ## Reflexes -/

def Context.isRecover : Context → Bool
  | .recover _ => true
  | _ => false

/-- R143: a stack with a context of an activity at its bottom and RECOVER contexts above it, top first. -/
def stackShaped : List Context → Bool
  | [] => true
  | [c] => !c.isRecover
  | c :: rest => c.isRecover && stackShaped rest

/-- A reflex runs at one of these stages. -/
def State.runsStage (s : State) (stages : List Stage) : Prop :=
  ∃ r, s.rxu.running = some r ∧ r.stage ∈ stages

/-- What runs, in which body state. RECOVER is the state of a running reflex, which keeps what it interrupted on the
stack (R142, R143, R151). A reseat procedure runs only in STAND, HOLD and UNSETTLED (R85, R90). PROPEL and PAUSE are
phases of a walk, and the other phases belong to a walk, to a reseat procedure or to a reseating stage (R72, R87, R91).
A placement runs in the phase PLACE or in a reflex's own PLACE (R73, R147). The crouch mark is CLEAR unless the CROUCH
runs, at its one stage (R155, R157), and the swing timer of a LIFT runs only at that stage (R147). -/
structure ActivitySound (s : State) : Prop where
  recover : s.pc.body = .recover ↔ s.rxu.running.isSome = true
  interrupted : s.rxu.running.isSome = true ↔ s.rxu.stack ≠ []
  shaped : stackShaped s.rxu.stack = true
  reseat : s.pls.reseat = true → s.pc.body = .stand ∨ s.pc.body = .hold ∨ s.pc.body = .unsettled
  walking : s.ssq.phase = .propel ∨ s.ssq.phase = .pause → s.pc.body = .walk
  stepping : s.ssq.phase ≠ .idle → s.pc.body = .walk ∨ s.pls.reseat = true ∨ s.runsStage [.reseat, .pass]
  placing : s.pls.placement.isSome = true → s.ssq.phase = .place ∨ s.runsStage [.place]
  crouching : s.rxu.crouch ≠ .clear → ∃ r, s.rxu.running = some r ∧ r.kind = .crouch ∧ r.stage = .crouch
  lifting : s.rxu.liftTimer.isSome = true → s.runsStage [.lift]

/-! ## Thermal -/

/-- R178, R181: every level is at most 3, and the body level is the one its legs and external hot give. -/
def LevelsSound (s : State) : Prop :=
  (∀ l : Leg, (s.tdu.legs.get l).level ≤ 3) ∧ s.tdu.body = s.bodyLevel

/-! ## Host link -/

/-- R188, R198: in SYNC nothing is queued, sent or received, and no rate is locked. -/
def SyncIsEmpty (s : State) : Prop :=
  s.hli.link = .sync →
    s.hli.rate = none ∧ s.hli.receiver = none ∧ s.hli.input = [] ∧ s.hli.slot = none ∧ s.hli.notes = [] ∧
      s.hli.lost = false ∧ s.hli.tx = .free ∧ s.hli.resetTaken = false

/-! ## Conditions on commands -/

/-- R191: a message can be taken: the link is FRAMED, the answer slot empty, no DO RESET taken. -/
def Ready (s : State) : Prop := s.hli.link = .framed ∧ s.hli.slot = none ∧ s.hli.resetTaken = false

/-- The state with an answer in the slot. -/
def State.answered (s : State) (seq : Byte) (st : Status) (p : Payload) : State :=
  { s with hli.slot := some { seq := seq, status := st, payload := p } }

/-- R39, R40: a test of the TIP condition made now would raise nothing. -/
def Steady (s : State) : Prop := s.tipHolds = false ∨ s.scu.tipRaised = true

/-- No reflex, no reseat procedure: what runs is the walk's own. -/
def Striding (s : State) : Prop := s.rxu.running = none ∧ s.pls.reseat = false

/-- A command that is a reset, or at which a DO RESET that was taken takes effect (R15, R20, R193). -/
def Resets (c : Instr) (s : State) : Prop :=
  c = .powerUpReset ∨ c = .warmReset ∨ ((c = .transmitDone ∨ c = .hostLineBreak) ∧ s.hli.resetTaken = true)

end Sys2Proof.Machine
end

