-- ==== Sys2Proof/WellFormed.lean ====
section
/-! DEFINITION. The operands a command can carry: what its frame, record or port can spell. -/

namespace Sys2Proof

/-- A payload is at most 200 bytes (11, Frames). -/
def payloadFits (bytes : List Byte) : Bool := decide (bytes.length ≤ 200)

/-- R189: the bytes of one complete frame: start byte, a length of at most 200, and as many bytes as its
length and kind need. -/
def frameFits : List Byte → Bool
  | start :: len :: kind :: rest =>
    let address := if kind = 1 ∨ kind = 2 ∨ kind = 5 then 2 else if kind = 3 ∨ kind = 4 then 1 else 0
    decide (start = 0xA5#8 ∧ len.toNat ≤ 200 ∧ rest.length = 1 + address + len.toNat + 2)
  | _ => false

/-- R21: each component lies in -8192..8191. -/
def sampleFits (v : Sample) : Bool :=
  decide (-8192 ≤ v.dx ∧ v.dx ≤ 8191 ∧ -8192 ≤ v.dy ∧ v.dy ≤ 8191 ∧ -8192 ≤ v.dz ∧ v.dz ≤ 8191)

/-- R192: the writable items. -/
def writableItem (unit item : Nat) : Bool :=
  match unit with
  | 0 => item == 1
  | 1 => item == 1 || item == 2
  | 6 => decide (item < 16)
  | 8 => decide (36 ≤ item ∧ item ≤ 59)
  | 9 => decide (item < 4)
  | _ => false

/-- A command whose operands can be spelled. -/
def WellFormed (i : Instr) : Bool :=
  match i with
  | .powerUpReset => true
  | .warmReset => true
  | .lowRunMeasured _ => true
  | .hostLineBreak => true
  | .hostFrameComplete frame => frameFits frame
  | .hostFrameByteTimeout => true
  | .hostByteFramingError => true
  | .hostLineLow20Bits => true
  | .takeFrame => true
  | .transmitStart => true
  | .transmitDone => true
  | .ask _ _ _ => true
  | .tellReadOnly _ unit item => !writableItem unit.toNat item.toNat
  | .tellGeometry _ payload => payloadFits payload
  | .tellOdometer _ value => decide (0 ≤ value ∧ value < 4294967296)
  | .tellZoneEntry _ index payload => decide (index.toNat < 16) && payloadFits payload
  | .tellReflexTable _ code _ kind param => decide (code ≤ 7 ∧ kind < 256 ∧ param < 256)
  | .tellSlipWindow _ _ payload => payloadFits payload
  | .tellNoteMask _ payload => payloadFits payload
  | .rise _ => true
  | .settle _ => true
  | .stride _ _ _ => true
  | .stop _ => true
  | .continueWalk _ => true
  | .reseat _ => true
  | .calibrate _ _ => true
  | .withdraw _ _ => true
  | .admitLeg _ _ => true
  | .plan _ _ _ entries => decide (entries.length ≤ 198)
  | .unplan _ _ _ => true
  | .unplanAll _ _ => true
  | .swap _ _ entry => decide (entry.length ≤ 199)
  | .reflexesOn _ => true
  | .reflexesOff _ => true
  | .resume _ => true
  | .reset _ => true
  | .attitudeDataReady => true
  | .sampleRead sample =>
    match sample with
    | some v => sampleFits v
    | none => true
  | .staleTimeout => true
  | .tipStaleTimeout => true
  | .surveyTimeout => true
  | .riseTimeout => true
  | .loweringTimeout => true
  | .shiftStall => true
  | .swingTimeout => true
  | .propelStall => true
  | .pauseEnd => true
  | .placeTimeout => true
  | .reswingTimeout => true
  | .steadyTimeout _ => true
  | .braceTimeout => true
  | .crouchTimeout => true
  | .retractLiftTimeout => true
  | .legRefreshDue _ => true
  | .legCommandSend _ => true
  | .legReportArrival _ _ => true
  | .legReportTimeout _ => true
  | .calibTimeout _ => true
  | .calibSettleEnd _ => true
  | .holdTimerExpiry _ => true
  | .hotzSense _ => true
  | .hotzDriveWindow => true
  | .hostByteReceived _ => true
  | .driveWindowEnd => true

end Sys2Proof
end

