-- ==== Sys2Proof/Certificates/Slice0/Obligations.lean ====
section
/-! DEFINITION. The statements for the provers. `ok` stands for an ANSWER with an empty payload; a note is said
through `State.postNote`, which `NotesQueueInOrder` is about. -/

open Sys2Proof Sys2Proof.Machine

/-! ## The step -/

/-- 95_what_each_step_holds.md: a command acts whole, on everything but the queue it came from. -/
def Obligations.StepRunsTheFrontCommand : Prop :=
  ∀ (c : Instr) (rest : List Instr) (s : State),
    step { s with pending := c :: rest } = exec c { s with pending := rest }

/-- No command stops the machine, and none touches the queue of those that wait. -/
def Obligations.EveryCommandAnswersAndKeepsTheQueue : Prop :=
  ∀ (c : Instr) (s : State), ∃ t, exec c s = .next t ∧ t.pending = s.pending

/-! ## Invariants that every step keeps -/

/-- The invariants below hold right after power-up reset. -/
def Obligations.InvariantsHoldAtReset : Prop :=
  OneLegInAir State.reset ∧ StanceSetCurrent State.reset ∧ ActivitySound State.reset ∧
    SafeOnlyLyingDown State.reset ∧ TargetsInRange State.reset ∧ WithinCapacities State.reset ∧
    PendingSound State.reset ∧ FootholdsSound State.reset ∧ ZonesSound State.reset ∧ SwayBounded State.reset ∧
    WindowsSound State.reset ∧ LevelsSound State.reset ∧ SyncIsEmpty State.reset

/-- R46.
A second leg asked into the air is not sent there: the model's choice (log entry 33). -/
def Obligations.OneLegInAirIsKept : Prop :=
  ∀ s t : State, OneLegInAir s → step s = .next t → OneLegInAir t

/-- R27, R47. -/
def Obligations.StanceSetStaysCurrent : Prop :=
  ∀ s t : State, StanceSetCurrent s → step s = .next t → StanceSetCurrent t

/-- R142, R143, R151, R157: what runs fits the body state and the context stack. -/
def Obligations.ActivityStaysSound : Prop :=
  ∀ s t : State, ActivitySound s → step s = .next t → ActivitySound t

/-- R14. -/
def Obligations.PostureSafeExactlyInRest : Prop :=
  ∀ s t : State, SafeOnlyLyingDown s → step s = .next t → SafeOnlyLyingDown t

/-- R45. R190, R194, R143, R109, R125. R187, R188, R191, R194, R196. -/
def Obligations.TargetsCapacitiesAndSyncStaySound : Prop :=
  (∀ s t : State, TargetsInRange s → step s = .next t → TargetsInRange t) ∧
  (∀ s t : State, WithinCapacities s → step s = .next t → WithinCapacities t) ∧
  (∀ s t : State, SyncIsEmpty s → step s = .next t → SyncIsEmpty t)

/-- R138, R139. R93, R94, R95, R101. -/
def Obligations.PendingListAndFootholdsStaySound : Prop :=
  (∀ s t : State, PendingSound s → step s = .next t → PendingSound t) ∧
  (∀ s t : State, FootholdsSound s → step s = .next t → FootholdsSound t)

/-- R109, R111, R112, R114, R115. R37, R38.
The bound holds for very small limits too: the model's choice (log entry 23). -/
def Obligations.ZoneInForceAndSwayStaySound : Prop :=
  (∀ s t : State, ZonesSound s → step s = .next t → ZonesSound t) ∧
  (∀ s t : State, SwayBounded s → step s = .next t → SwayBounded t)

/-- R125, R126. R178, R179, R181. -/
def Obligations.SlipWindowsAndLevelsStaySound : Prop :=
  (∀ s t : State, WindowsSound s → step s = .next t → WindowsSound t) ∧
  (∀ s t : State, LevelsSound s → step s = .next t → LevelsSound t)

/-! ## Rules of the whole machine -/

/-- R3, R4: a geometry record that has been written is replaced by nothing but a power-up reset. R17: once set, the protect
latch stays set until a power-up reset. -/
def Obligations.GeometryAndLatchAreSetOnce : Prop :=
  (∀ (c : Instr) (s t : State), c ≠ .powerUpReset → exec c s = .next t → s.pc.written = true →
     t.pc.written = true ∧ t.pc.geom = s.pc.geom) ∧
  (∀ (c : Instr) (s t : State), c ≠ .powerUpReset → exec c s = .next t → s.pc.protect = true →
     t.pc.protect = true)

/-- R159: under the protect latch the Reflex Unit takes no cause, and the running reflex stands still. -/
def Obligations.LatchedReflexUnitTakesNothing : Prop :=
  ∀ (c : Instr) (s t : State), ¬ Resets c s → exec c s = .next t → s.pc.protect = true →
    t.rxu.stack = s.rxu.stack ∧ t.rxu.running = s.rxu.running

/-- R56: no leg passes from STANCE to SWING but on an accepted sample, with the predicted margin of that event at
least the margin threshold latched, its link OK and the latch clear. No placement may run on a leg in STANCE, as none
does that R74 and R80 began. -/
def Obligations.NoLiftWithoutMargin : Prop :=
  ∀ (c : Instr) (s t : State) (l : Leg),
    (∀ k, s.pls.placement = some k → s.modeOf k ≠ .stance) → exec c s = .next t →
    s.modeOf l = .stance → t.modeOf l = .swing →
    (∃ v, c = .sampleRead (some v) ∧ sampleAccepted v = true) ∧ t.scu.predictedLeg = some l ∧
      s.ssq.latched.threshold ≤ t.scu.predicted.value ∧ s.linkOk l = true ∧ s.pc.protect = false

/-- R5, R6: REST is left by an accepted RISE alone, sent as a message or taken as a frame. -/
def Obligations.OnlyARiseLeavesRest : Prop :=
  ∀ (c : Instr) (s t : State), ¬ Resets c s → exec c s = .next t → s.pc.body = .rest → t.pc.body ≠ .rest →
    t.pc.body = .rising ∧ s.pc.protect = false ∧ s.pc.written = true ∧
      ((∃ q, c = .rise q) ∨ c = .takeFrame ∨ (∃ f, c = .hostFrameComplete f) ∨
        (∃ b, c = .hostByteReceived b) ∨ c = .transmitDone)

/-- Log entry 32: the fuel of the resumptions of one event never runs out. -/
def Obligations.ResumptionsNeverRunOutOfFuel : Prop :=
  ∀ (s : State) (v : Verdict) (n : Nat), s.settleFuel ≤ n → s.settleReflex n v = s.settle v

/-! ## Records and arithmetic -/

/-- R189 and the layout of a host frame: what the block sends of a kind with its address bytes and payload reads back
as that frame. -/
def Obligations.HostFramesReadBack : Prop :=
  ∀ (kind seq : Byte) (address payload : List Byte),
    address.length = addressLength kind → payload.length ≤ 200 →
    decodeFrame (encodeFrame kind seq address payload) =
      some { kind := kind, seq := seq, address := address, payload := payload }

/-- The layouts of the geometry record, the zone entry and the foothold entry: a record in range reads back from the bytes
that spell it. An in-use mark sent is not examined. R162, R164: every command record is twelve bytes that sum to 0; a
report record of the right length that does not sum to 0 is a miss.
The override field of a foothold entry without an override is the model's choice (log entry 6). -/
def Obligations.RecordsReadBackAndSumToZero : Prop :=
  ((∀ (g : Geometry) (mark : Bool), g.inRanges = true →
     geometryOfBytes ((geometryBytes g mark).take 29) = some g) ∧
   (∀ e : ZoneEntry, e.params.inRanges = true → e.limit < 16777216 → zoneOfBytes (zoneBytes e) = some e) ∧
   (∀ (e : Foothold) (more : List Byte), e.tag < 256 → e.clamped = e → e.alternates.length ≤ 3 →
     entryOfBytes (entryBytes e ++ more) = some ({ e with inUse := false }, more))) ∧
  ((∀ c : LegCmd, (commandRecord c).length = 12 ∧ byteSum (commandRecord c) = 0) ∧
     ∀ record : List Byte, record.length = 13 → byteSum record ≠ 0 → judgeReport record = .miss)

/-- 00_scope.md, Conventions: the integer floor root is the largest integer whose square does not exceed the argument. R30:
on each axis the slope shift is the quotient rounded to nearest, a half away from zero, then clamped. -/
def Obligations.RootsAndSlopesAreExact : Prop :=
  (∀ n : Nat, floorRoot n * floorRoot n ≤ n ∧ n < (floorRoot n + 1) * (floorRoot n + 1)) ∧
  (∀ d h down : Int, 2048 ≤ down → 0 ≤ h →
     ∃ q : Int, slopeShift d h down = max (-1023) (min 1023 q) ∧
       (0 ≤ d → 2 * q * down ≤ 2 * d * h + down ∧ 2 * d * h + down < 2 * (q + 1) * down) ∧
       (d ≤ 0 → 2 * q * down ≥ 2 * d * h - down ∧ 2 * d * h - down > 2 * (q - 1) * down))

/-- R22, R23, R26: what an accepted sample leaves before the TIP test and the sway-step event: its slot taken, the averaged
vector formed, staleness ended, and the support recomputed. -/
def sampled (s : State) (v : Sample) : State :=
  let slots := Slots.push s.atp.slots v
  State.recompute { s with atp.slots := some slots, atp.since := 0, atp.reading := false, scu.dbar := slots.average,
                           scu.attStale := false, scu.tipStale := false }

/-- R22. -/
def acceptable (v : Sample) : Prop :=
  9437184 ≤ v.dx * v.dx + v.dy * v.dy + v.dz * v.dz ∧ v.dx * v.dx + v.dy * v.dy + v.dz * v.dz ≤ 26214400

/-- R32: the vertex list of the last reported positions of some legs of the stance set. -/
def feetOf (s : State) (keep : Leg → Bool) : List Pair :=
  vertexList ((([Leg.lf, .lh, .rh, .rf].filter s.inStance).filter keep).map fun l => ⟨(s.footOf l).x, (s.footOf l).y⟩)

/-- R32: a vertex list keeps the feet in their order, drops a repeat of the foot before it, and a last one equal to the
first. R33: it is degenerate with fewer than three vertices, or where twice its signed area is not positive. R34: the
margin of one that is not is the least over its edges of the distance from P, the cross product over the floored
length, floored, and then clamped. A margin depends on where the feet stand about P alone. R28, R31, R35: a sample
accepted while no SHIFT runs publishes the foot plane, the height, the slope shift (R30), P and the margin; a failed tilt
check holds P. R36, R37, R55, R56, R58: in a settled SHIFT a predicted margin below the threshold moves the stance
targets and the sway by the cut step, and one at or above it lifts the leg to its target, with the head of its queue
marked in use; a TIP that the lift itself brings is the exception. R55, R53, R89, R91: a cut step of (0, 0) is the end of
the SHIFT, with a NO_MARGIN note that names the stepping leg: a walk goes to HOLD before that step; a reseat procedure
fails, with RESEAT_FAIL; a leg reseat that interrupted STAND fails its reflex.
That the slope shift keeps its value while the tilt check fails, and where a step ends under a limit of 0 to 3, are the
model's choices (log entries 60 and 23); so are the TIP test once the new activity is in place and the empty reseat set
of a procedure that fails or a reflex that has ended (log entries 9, 52 and 63). -/
def Obligations.MarginsAreFormedAndGovernTheLift : Prop :=
  (∀ feet : List Pair,
     let vs := vertexList feet
     vs.Sublist feet ∧ vs.head? = feet.head? ∧ (∀ a ∈ feet, a ∈ vs) ∧
       (∀ (i : Nat) (a : Pair), vs[i]? = some a → vs[i + 1]? ≠ some a) ∧ (2 ≤ vs.length → vs.getLast? ≠ vs.head?) ∧
       ((∀ (i : Nat) (a : Pair), feet[i]? = some a → feet[i + 1]? ≠ some a) →
         (2 ≤ feet.length → feet.getLast? ≠ feet.head?) → vs = feet)) ∧
  (∀ (p : Pair) (feet : List Pair),
     let vs := vertexList feet
     let n := vs.length
     let at' := fun i => vs.getD (i % n) Pair.zero
     let area := ((List.range n).map fun i => (at' i).x * (at' (i + 1)).y - (at' (i + 1)).x * (at' i).y).sum
     let distance := fun (i : Nat) (d : Int) =>
       let ex := (at' (i + 1)).x - (at' i).x
       let ey := (at' (i + 1)).y - (at' i).y
       let cross := ex * (p.y - (at' i).y) - ey * (p.x - (at' i).x)
       let len : Int := floorRoot (ex * ex + ey * ey).toNat
       1 ≤ len ∧ d * len ≤ cross ∧ cross < (d + 1) * len
     (isDegenerate vs = true ↔ n < 3 ∨ area ≤ 0) ∧ (isDegenerate vs = true → marginOf p vs = -1023) ∧
       (isDegenerate vs = false → ∃ i d, i < n ∧ distance i d ∧ (∀ j < n, ∃ e, distance j e ∧ d ≤ e) ∧
         marginOf p vs = max (-1023) (min 1023 d))) ∧
  (∀ (p v : Pair) (feet : List Pair),
     let moved := feet.map fun a => Pair.mk (a.x + v.x) (a.y + v.y)
     isDegenerate (vertexList moved) = isDegenerate (vertexList feet) ∧
       marginOf ⟨p.x + v.x, p.y + v.y⟩ (vertexList moved) = marginOf p (vertexList feet)) ∧
  (∀ (s : State) (v : Sample), acceptable v → s.ssq.phase ≠ .shift → s.rxu.stack.length < 4 →
     ∃ t, exec (.sampleRead (some v)) s = .next t ∧
       (let level := decide (2048 ≤ -t.scu.dbar.dz)
        let legs := Leg.all.filter s.inStance
        t.scu.zf = (if legs = [] then s.pc.geom.stand
          else (legs.map fun l => (s.footOf l).z).sum.tdiv legs.length) ∧
        t.scu.h = max (s.pc.geom.cz - t.scu.zf) 50 ∧
        (level = true → t.scu.pHeld = false ∧
          t.scu.shift = ⟨slopeShift t.scu.dbar.dx t.scu.h (-t.scu.dbar.dz),
            slopeShift t.scu.dbar.dy t.scu.h (-t.scu.dbar.dz)⟩ ∧
          t.scu.p = ⟨s.pc.geom.cx + t.scu.shift.x + s.scu.sway.x, s.pc.geom.cy + t.scu.shift.y + s.scu.sway.y⟩) ∧
        (level = false → t.scu.pHeld = !s.scu.margin.notReady ∧ t.scu.shift = s.scu.shift ∧ t.scu.p = s.scu.p) ∧
        t.scu.margin.notReady = (s.scu.margin.notReady && !level) ∧
        t.scu.margin.degenerate = isDegenerate (feetOf s fun _ => true) ∧
        t.scu.margin.value = (if t.scu.margin.notReady = true then -1023
          else marginOf t.scu.p (feetOf s fun _ => true)) ∧
        t.scu.stance = s.scu.stance ∧ t.scu.sway = s.scu.sway)) ∧
  (∀ acc limit raw : Int, 0 ≤ limit →
     let cut := cutAxis acc limit raw
     (acc.natAbs < limit → (-limit ≤ acc + raw → acc + raw ≤ limit → cut = raw) ∧
       (limit < acc + raw → acc + cut = limit) ∧ (acc + raw < -limit → acc + cut = -limit)) ∧
     (limit ≤ acc.natAbs → (acc.natAbs < (acc + raw).natAbs → cut = 0) ∧ ((acc + raw).natAbs ≤ acc.natAbs → cut = raw))) ∧
  (∀ (s : State) (v : Sample) (l : Leg), acceptable v → s.ssq.phase = .shift → s.ssq.stepping = some l →
     s.pc.protect = false → (sampled s v).tipHolds = false →
     (∀ k, s.inStance k = true → ((s.footOf k).x - (s.cmdOf k).target.x).natAbs ≤ 5 ∧
       ((s.footOf k).y - (s.cmdOf k).target.y).natAbs ≤ 5 ∧ ((s.footOf k).z - (s.cmdOf k).target.z).natAbs ≤ 5) →
     let u := sampled s v
     let vs := feetOf u fun k => k != l
     let margin : Margin := { value := if u.scu.margin.notReady = true then -1023 else marginOf u.scu.p vs,
                              notReady := u.scu.margin.notReady, degenerate := isDegenerate vs }
     let raw : Pair := ⟨max (-4) (min 4 ((vs.map Pair.x).sum.tdiv vs.length - u.scu.p.x)),
                        max (-4) (min 4 ((vs.map Pair.y).sum.tdiv vs.length - u.scu.p.y))⟩
     let step : Pair :=
       if isDegenerate vs = true ∨ u.scu.margin.notReady = true then ⟨0, 0⟩
       else ⟨cutAxis s.scu.sway.x s.ssq.latched.swayLimit raw.x, cutAxis s.scu.sway.y s.ssq.latched.swayLimit raw.y⟩
     (margin.value < s.ssq.latched.threshold → step ≠ ⟨0, 0⟩ →
       ∃ t, exec (.sampleRead (some v)) s = .next t ∧
         t.scu = { u.scu with predicted := margin, predictedLeg := some l, tipRaised := false,
                              tipCondition := t.scu.tipCondition,
                              sway := ⟨s.scu.sway.x + step.x, s.scu.sway.y + step.y⟩ } ∧
         t.ssq = { s.ssq with phaseTimer := some 0, cmd := t.ssq.cmd } ∧
         (∀ k, s.modeOf k = .stance → t.modeOf k = .stance ∧ (t.cmdOf k).clearance = (s.cmdOf k).clearance ∧
           (t.cmdOf k).target =
             clampPoint ⟨(s.cmdOf k).target.x - step.x, (s.cmdOf k).target.y - step.y, (s.cmdOf k).target.z⟩) ∧
         (∀ k, s.modeOf k ≠ .stance → t.cmdOf k = s.cmdOf k) ∧
         t.pc = s.pc ∧ t.pls = s.pls ∧ t.rxu = s.rxu ∧ t.fhq = s.fhq ∧ t.ztb = s.ztb ∧ t.tdu = s.tdu ∧ t.hli = s.hli) ∧
     (margin.value < s.ssq.latched.threshold → step = ⟨0, 0⟩ →
       let noted := s.postNote (.fault .noMargin (some l) none)
       let idle := { s.ssq with phase := .idle, stepping := none, phaseTimer := none }
       let stopped := { s.pls with reseat := false, reseatSet := [], reseatLeg := none }
       let asked := { u.scu with predicted := margin, predictedLeg := some l, tipRaised := false }
       (Striding s → s.pc.body = .walk → s.rxu.waiting = false →
         ∃ t, exec (.sampleRead (some v)) s = .next t ∧ t.pc = { s.pc with body := .hold } ∧
           t.ssq = { idle with next := some ⟨l, s.ssq.index⟩ } ∧
           t.hli = (noted.postNote (.body .walk .hold .fault)).hli ∧
           t.scu = { asked with tipCondition := false, survey := false, surveyTimer := none } ∧
           t = { s with pc := t.pc, ssq := t.ssq, scu := t.scu, hli := t.hli, atp := t.atp }) ∧
       (s.pls.reseat = true → s.rxu.running = none →
         s.pc.body = .stand ∨ s.pc.body = .hold ∨ s.pc.body = .unsettled → s.pls.origin = s.pc.body.origin →
         let faults := noted.postNote (.fault .reseatFail none none)
         (s.pc.body = .stand → s.rxu.waiting = false →
           ∃ t, exec (.sampleRead (some v)) s = .next t ∧ t.pc = { s.pc with body := .hold } ∧ t.pls = stopped ∧
             t.ssq = { idle with count := 0, next := none } ∧
             t.hli = (faults.postNote (.body .stand .hold .fault)).hli ∧
             t.scu = { asked with tipCondition := false, survey := false, surveyTimer := none } ∧
             t = { s with pc := t.pc, pls := t.pls, ssq := t.ssq, scu := t.scu, hli := t.hli, atp := t.atp }) ∧
         (s.pc.body ≠ .stand →
           ∃ t, exec (.sampleRead (some v)) s = .next t ∧ t.pls = stopped ∧ t.ssq = idle ∧ t.hli = faults.hli ∧
             t.scu = { asked with tipCondition := t.scu.tipCondition } ∧
             t = { s with pls := t.pls, ssq := t.ssq, scu := t.scu, hli := t.hli, atp := t.atp })) ∧
       (∀ r, s.rxu.running = some r → r.stage = .reseat → s.pc.body = .recover → s.rxu.stack = [.stand] →
         s.rxu.pending = [] →
         ∃ t, exec (.sampleRead (some v)) s = .next t ∧ t.pc = { s.pc with body := .stand } ∧ t.rxu.stack = [] ∧
           t.rxu.running = none ∧ t.rxu.re1 = s.rxu.re2 ∧ t.rxu.pending = [] ∧ t.ssq = idle ∧
           t.pls = { s.pls with reseatSet := [], reseatLeg := none } ∧
           t.hli = ((noted.postNote (.reflex .failed r.trigger r.leg (some r.kind) 0)).postNote
             (.body .recover .stand .done)).hli ∧
           t.scu.predicted = margin ∧ t.scu.predictedLeg = some l ∧ t.scu.sway = s.scu.sway ∧ t.llc = s.llc ∧
           t.fhq = s.fhq ∧ t.ztb = s.ztb ∧ t.tdu = s.tdu)) ∧
     (s.ssq.latched.threshold ≤ margin.value → Striding s → s.pc.body = .walk → s.rxu.crouch = .clear →
       s.rxu.stack = [] → s.ssq.stopMark = false → s.rxu.waiting = false → s.rxu.pending = [] → s.tdu.body < 3 →
       (s.link l).link = .ok → (∀ k, ¬ s.inAir k) →
       ∃ t, exec (.sampleRead (some v)) s = .next t ∧ t.scu.predicted = margin ∧ t.scu.predictedLeg = some l ∧
         (t.rxu.crouch = .clear → t.ssq.phase = .swing ∧ t.ssq.stepping = some l ∧ t.ssq.phaseTimer = some 0 ∧
           t.modeOf l = .swing ∧ t.verifiedOf l = false ∧ t.inStance l = false ∧
           (t.cmdOf l).clearance = (if s.ssq.latched.surface = .stair then max s.ssq.latched.clearance 200
             else s.ssq.latched.clearance) ∧
           (let reach := (if s.ssq.dir = .forward then 1 else -1) * s.ssq.latched.effective.tdiv 2
            let out := if l = .lf ∨ l = .lh then s.pc.geom.widening else -s.pc.geom.widening
            let n : Point := ⟨(s.pc.geom.hip.get l).x + reach, (s.pc.geom.hip.get l).y + out, s.pc.geom.stand⟩
            ((s.queueOf l).entries = [] → (t.cmdOf l).target = clampPoint n ∧ t.fhq = s.fhq) ∧
            (∀ e rest, (s.queueOf l).entries = e :: rest →
              (t.cmdOf l).target = clampPoint ⟨n.x + e.dx, n.y + e.dy, n.z + e.dz⟩ ∧
              (t.queueOf l).entries = { e with inUse := true } :: rest)) ∧
           (∀ k, k ≠ l → t.cmdOf k = s.cmdOf k ∧ t.queueOf k = s.queueOf k) ∧ t.pc = s.pc ∧ t.rxu = s.rxu ∧
           t.scu.sway = s.scu.sway)))

/-- R194, R195: a note in SYNC or masked off is discarded; with fewer than 16 queued it joins the tail; else it is
lost and the lost mark set. -/
def Obligations.NotesQueueInOrder : Prop :=
  ∀ (s : State) (n : Note),
    (s.hli.link = .sync → s.postNote n = s) ∧
    (s.hli.link = .framed → s.hli.mask.getLsbD (n.kind - 1) = false → s.postNote n = s) ∧
    (s.hli.link = .framed → s.hli.mask.getLsbD (n.kind - 1) = true → s.hli.notes.length < 16 →
      s.postNote n = { s with hli.notes := s.hli.notes ++ [n] }) ∧
    (s.hli.link = .framed → s.hli.mask.getLsbD (n.kind - 1) = true → 16 ≤ s.hli.notes.length →
      s.postNote n = { s with hli.lost := true })

/-! ## Resets -/

/-- R20, R43, R72, R92, R108, R124, R135, R161, R177, R186: power-up leaves every block at its reset values, whatever it
held; the values are spelled here. R15, R14, R17, R3, R171: a warm reset spares the geometry, the posture-safe flag, the
protect latch and the first-done flags, puts the body where the posture-safe flag says, with every leg LIMP or in HOLD,
and leaves all else at the reset values. The height of the empty stance set is that of the geometry kept (R28). The
model's own marks and timers take the values of log entry 7. That every warm reset leaves the note of its own two
states, be they equal or be a note still set, is the model's choice (log entries 36 and 58). The last clause is the
model's own choice (log entry 3): on an empty queue a millisecond passes. Every running timer counts by one up to its
period, those of walking, placing and reflexes only while the protect latch is clear (R18, R146); a stopped timer stays
stopped; the time since the last sample counts up to 65535; nothing else changes. -/
def Obligations.ResetsAndMillisecondsLeaveTheirValues : Prop :=
  (∀ s : State, exec .powerUpReset s = .next { State.reset with pending := s.pending } ∧
     (let r := State.reset
      r.pc.body = .rest ∧ r.pc.written = false ∧ r.pc.postureSafe = true ∧ r.pc.protect = false ∧
       r.pc.riseTimer = none ∧ r.pc.loweringTimer = none ∧ r.pc.lowered = .all false ∧
       r.pc.geom = { hip := .all ⟨0, 0⟩, cx := 0, cy := 0, cz := 0, stand := 0, crouch := 0, widening := 0,
                     critical := 10 } ∧
       r.atp.slots = none ∧ r.atp.rejected = 0 ∧ r.atp.since = 0 ∧ r.scu.dbar = ⟨0, 0, 0⟩ ∧ r.scu.attStale = false ∧
       r.scu.tipStale = false ∧ r.scu.stance = .all false ∧ r.scu.zf = 0 ∧ r.scu.h = 50 ∧ r.scu.shift = ⟨0, 0⟩ ∧
       r.scu.p = ⟨0, 0⟩ ∧ r.scu.pHeld = false ∧ r.scu.margin = ⟨-1023, true, true⟩ ∧ r.scu.predicted.value = -1023 ∧
       r.scu.predicted.notReady = true ∧ r.scu.predictedLeg = none ∧ r.scu.sway = ⟨0, 0⟩ ∧
       r.scu.tipCondition = false ∧ r.scu.tipRaised = false ∧ r.scu.survey = false ∧
       r.ssq.phase = .idle ∧ r.ssq.stepping = none ∧ r.ssq.index = 1 ∧ r.ssq.count = 0 ∧ r.ssq.dir = .forward ∧
       r.ssq.order = ⟨.lh, .lf, .rh, .rf⟩ ∧ r.ssq.next = none ∧ r.ssq.stopMark = false ∧ r.ssq.phaseTimer = none ∧
       r.ssq.odometer = 0 ∧ r.ssq.quarter = 0 ∧
       r.ssq.latched = { stride := 100, clearance := 120, threshold := 80, swayLimit := 100, maxReplace := 3,
                         surface := .solid, derate := 0, effective := 100 } ∧
       (∀ l, r.modeOf l = .limp ∧ (r.cmdOf l).target = ⟨0, 0, 0⟩ ∧ (r.cmdOf l).clearance = 0 ∧
         r.verifiedOf l = false ∧ (r.queueOf l).entries = [] ∧ (r.queueOf l).consumed = none ∧
         (r.queueOf l).discarded = none ∧
         r.slipOf l = { start := 0, length := 0, next := 0, fill := 0, newest := none, steady := true,
                        steadyTimer := none, slip := false, lowForce := 0, lastThreshold := none } ∧
         (r.link l).link = .wait ∧ (r.link l).awaiting = false ∧ (r.link l).sendWaiting = true ∧
         (r.link l).refresh = none ∧ (r.link l).report = none ∧ (r.link l).miss = 0 ∧ (r.link l).good = 0 ∧
         (r.link l).missTotal = 0 ∧ (r.link l).last = none ∧ (r.link l).moduleFault = false ∧
         (r.link l).obstruct = false ∧ (r.link l).overload = false ∧ (r.link l).withdrawn = false ∧
         (r.link l).calib = .idle ∧ (r.link l).calibTimer = none ∧ (r.link l).firstDone = false ∧
         (r.tdu.legs.get l).level = 0 ∧ (r.tdu.legs.get l).hold = none ∧ (r.tdu.legs.get l).last = none ∧
         r.rxu.table.slip.get l = ⟨.reseatOne, 0⟩ ∧ r.rxu.table.obstruct.get l = ⟨.retract, 50⟩ ∧
         r.rxu.table.placeFail.get l = ⟨.regroup, 0⟩ ∧ r.rxu.table.overload.get l = ⟨.brace, 40⟩ ∧
         r.rxu.table.unload.get l = ⟨.reseatOne, 0⟩ ∧ r.rxu.table.linkLost.get l = ⟨.brace, 60⟩) ∧
       r.pls.placement = none ∧ r.pls.sub = .lower ∧ r.pls.attempt = 0 ∧ r.pls.target = ⟨0, 0, 0⟩ ∧
       r.pls.attemptTarget = ⟨0, 0, 0⟩ ∧ r.pls.liftClearance = 0 ∧ r.pls.maxReplace = 3 ∧ r.pls.surface = .solid ∧
       r.pls.entry = none ∧ r.pls.placeTimer = none ∧ r.pls.reswingTimer = none ∧ r.pls.reseat = false ∧
       r.pls.origin = .stand ∧ r.pls.pass = 1 ∧ r.pls.reseatSet = [] ∧ r.pls.reseatLeg = none ∧
       r.ztb.inForce = 255 ∧ r.ztb.entries.length = 16 ∧ (∀ e ∈ r.ztb.entries, e.valid = false ∧ e.limit = 0) ∧
       r.zone = { surface := .solid, stride := 100, clearance := 120, order := ⟨.lh, .lf, .rh, .rf⟩, threshold := 80,
                  swayLimit := 100, maxReplace := 3, slipThreshold := 20, select := .fixed } ∧
       (∀ e ∈ r.ztb.entries, e.params = r.zone) ∧ r.slm.store.length = 64 ∧ (∀ d ∈ r.slm.store, d = 0) ∧
       r.rxu.re1 = true ∧ r.rxu.re2 = true ∧ r.rxu.waiting = false ∧ r.rxu.pending = [] ∧ r.rxu.stack = [] ∧
       r.rxu.running = none ∧ r.rxu.crouch = .clear ∧ r.rxu.stageTimer = none ∧ r.rxu.dropped = 0 ∧
       r.tdu.body = 0 ∧ r.tdu.external = false ∧ r.tdu.window = .sense ∧ r.tdu.lastSense = none ∧ r.tdu.run = 0 ∧
       r.tdu.driving = false ∧ r.pending = [])) ∧
  (∀ s : State, ∃ t, exec .warmReset s = .next t ∧
     (let r := State.reset
      let up := !s.pc.postureSafe
      t.pc = { r.pc with body := if up then .unsettled else .rest, geom := s.pc.geom, written := s.pc.written,
                         postureSafe := s.pc.postureSafe, protect := s.pc.protect, awaitFirst := .all up } ∧
       t.scu = { r.scu with zf := s.pc.geom.stand, h := max (s.pc.geom.cz - s.pc.geom.stand) 50, survey := up,
                            surveyTimer := if up then some 0 else none } ∧
       t.ssq = { r.ssq with cmd := .all { mode := if up then .hold else .limp, target := ⟨0, 0, 0⟩,
                                          clearance := 0 } } ∧
       (∀ l, t.link l = { r.link l with firstDone := (s.link l).firstDone }) ∧
       t.hli = { r.hli with warmNote := some (s.pc.body, t.pc.body) } ∧
       t.atp = r.atp ∧ t.pls = r.pls ∧ t.fhq = r.fhq ∧ t.ztb = r.ztb ∧ t.slm = r.slm ∧ t.rxu = r.rxu ∧ t.tdu = r.tdu ∧
       t.pending = s.pending)) ∧
  (∀ s : State, s.pending = [] →
     let counts := fun (period : Nat) (timer : Timer) => timer.map fun n => min period (n + 1)
     let runs := fun (period : Nat) (timer : Timer) => if s.pc.protect = true then timer else counts period timer
     step s = .next { s with
       pc.riseTimer := counts 4000 s.pc.riseTimer, pc.loweringTimer := counts 4000 s.pc.loweringTimer,
       atp.since := min 65535 (s.atp.since + 1), scu.surveyTimer := counts 100 s.scu.surveyTimer,
       ssq.phaseTimer := runs (if s.ssq.phase = .swing then 3000 else 2000) s.ssq.phaseTimer,
       pls.placeTimer := runs 1000 s.pls.placeTimer, pls.reswingTimer := runs 3000 s.pls.reswingTimer,
       rxu.stageTimer := runs 1000 s.rxu.stageTimer, rxu.liftTimer := runs 3000 s.rxu.liftTimer,
       slm.legs := s.slm.legs.map fun k => { k with steadyTimer := counts 1000 k.steadyTimer },
       llc := s.llc.map fun k =>
         { k with refresh := counts 5 k.refresh, report := counts 2 k.report,
                  calibTimer := counts (if k.calib = .settle then 250 else 3000) k.calibTimer },
       tdu.legs := s.tdu.legs.map fun k => { k with hold := counts 30000 k.hold } })

/-- R198. -/
def Obligations.HostLinkAfterEitherReset : Prop :=
  ∀ (s t : State) (c : Instr), c = .powerUpReset ∨ c = .warmReset → exec c s = .next t →
    t.hli.link = .sync ∧ t.hli.rate = none ∧ t.hli.measured = none ∧ t.hli.receiver = none ∧
      t.hli.input = [] ∧ t.hli.slot = none ∧ t.hli.notes = [] ∧ t.hli.lost = false ∧
      (∀ k, 1 ≤ k → k ≤ 9 → t.hli.mask.getLsbD (k - 1) = true) ∧ t.hli.tx = .free ∧
      (c = .powerUpReset → t.hli.warmNote = none) ∧ (c = .warmReset → t.hli.warmNote.isSome = true)

/-! ## The host line -/

/-- R187, R188, R193: in SYNC a low run strictly within 3% of a rate becomes the measurement held, and one that matches
the rate held locks it: C3h goes out, and the warm reset's BODY note is the first of the queue. A run more than 3% from
every rate leaves no measurement, and in FRAMED nothing is measured. A long break in FRAMED returns the link to SYNC
with its queues empty; the note mask is kept. A DO RESET whose ANSWER it cuts off takes effect then.
The run is given in nanoseconds (log entry 17). -/
def Obligations.TheRateLocksAndALongBreakUnlocks : Prop :=
  (∀ (s : State) (ns : Nat),
     (∀ r : BitRate, s.hli.link = .sync → ((ns * 1000 : Int) - 5 * r.bitTime).natAbs * 100 < 15 * r.bitTime →
       (s.hli.measured ≠ some r → exec (.lowRunMeasured ns) s = .next { s with hli.measured := some r }) ∧
       (s.hli.measured = some r →
         ∃ t, exec (.lowRunMeasured ns) s = .next t ∧ t.hli.link = .framed ∧ t.hli.rate = some r ∧
           t.hli.receiver = none ∧ t.hli.lineOut = some [0xC3] ∧ t.hli.warmNote = none ∧
           (s.hli.warmNote = none → t.hli.notes = s.hli.notes) ∧
           (∀ left entered, s.hli.warmNote = some (left, entered) → s.hli.notes = [] → s.hli.mask = 0x01FF →
             t.hli.notes = [.body left entered .reset]) ∧
           t = { s with hli := t.hli })) ∧
     (s.hli.link = .sync → (∀ r : BitRate, 15 * r.bitTime < ((ns * 1000 : Int) - 5 * r.bitTime).natAbs * 100) →
       exec (.lowRunMeasured ns) s = .next { s with hli.measured := none }) ∧
     (s.hli.link = .framed → exec (.lowRunMeasured ns) s = .next s)) ∧
  (∀ s : State,
     (s.hli.link = .framed → s.hli.resetTaken = false →
       exec .hostLineBreak s = .next { s with hli := { HostLink.atReset s.hli.warmNote with mask := s.hli.mask } }) ∧
     (s.hli.link = .framed → s.hli.resetTaken = true → exec .hostLineBreak s = exec .warmReset s) ∧
     (s.hli.link = .sync → exec .hostLineBreak s = .next s))

/-- R189, R190, R191: the receiver byte by byte, and the three events that discard a frame. A
complete frame joins the input queue, is lost to a queue of four, or is taken at once. The last byte of a frame
completes it.
HOST_FRAME_COMPLETE carries the bytes of its frame: the model's choice (log entry 24). -/
def Obligations.FramesAreCollectedAndQueued : Prop :=
  (∀ (s : State) (b : Byte), s.hli.link = .framed →
     (s.hli.receiver = none → exec (.hostByteReceived b) s =
       .next (if b = 0xA5 then { s with hli.receiver := some [b] } else s)) ∧
     (∀ a, s.hli.receiver = some [a] → 200 < b.toNat →
       exec (.hostByteReceived b) s = .next { s with hli.receiver := none }) ∧
     (∀ a, s.hli.receiver = some [a] → b.toNat ≤ 200 →
       exec (.hostByteReceived b) s = .next { s with hli.receiver := some [a, b] }) ∧
     (∀ soFar, s.hli.receiver = some soFar → 2 ≤ soFar.length → soFar.length ≤ 4 →
       exec (.hostByteReceived b) s = .next { s with hli.receiver := some (soFar ++ [b]) }) ∧
     (∀ start len kind more, s.hli.receiver = some (start :: len :: kind :: more) →
       let whole := 1 + 1 + 1 + 1 + addressLength kind + len.toNat + 2
       let bytes := start :: len :: kind :: (more ++ [b])
       (bytes.length ≠ whole → exec (.hostByteReceived b) s = .next { s with hli.receiver := some bytes }) ∧
       (bytes.length = whole → decodeFrame bytes = none →
         exec (.hostByteReceived b) s = .next { s with hli.receiver := none })) ∧
     exec .hostFrameByteTimeout s = .next { s with hli.receiver := none } ∧
     exec .hostByteFramingError s = .next { s with hli.receiver := none } ∧
     exec .hostLineLow20Bits s = .next { s with hli.receiver := none }) ∧
  (∀ (s : State) (kind seq : Byte) (address payload : List Byte), s.hli.link = .framed →
     address.length = addressLength kind → payload.length ≤ 200 →
     let bytes := encodeFrame kind seq address payload
     let frame : Frame := { kind := kind, seq := seq, address := address, payload := payload }
     (s.hli.input.length < 4 → s.hli.slot ≠ none → exec (.hostFrameComplete bytes) s =
       .next { s with hli.receiver := none, hli.input := s.hli.input ++ [frame] }) ∧
     (4 ≤ s.hli.input.length → exec (.hostFrameComplete bytes) s =
       .next (State.postNote { s with hli.receiver := none } (.fault .linkOverrun none none))) ∧
     (s.hli.input.length < 4 → exec (.hostFrameComplete bytes) s =
       exec .takeFrame { s with hli.receiver := none, hli.input := s.hli.input ++ [frame] }) ∧
     (s.hli.receiver = some bytes.dropLast → ∀ b, bytes.getLast? = some b →
       exec (.hostByteReceived b) s = exec (.hostFrameComplete bytes) s))

/-- R191, R193: the oldest frame leaves the queue and gets exactly one ANSWER, with its sequence; a frame taken acts as
the message it carries. One of a kind other than ASK, TELL and DO, or a DO of an action code outside 1 to 15, is answered
UNKNOWN with an empty payload, under the protect latch too. -/
def Obligations.ATakenFrameActsAndIsAnswered : Prop :=
  (∀ (s : State) (f : Frame) (rest : List Frame), Ready s → s.hli.input = f :: rest →
     ∃ t a, exec .takeFrame s = .next t ∧ t.hli.input = rest ∧ t.hli.slot = some a ∧ a.seq = f.seq) ∧
  (∀ (s : State) (q : Byte) (p : List Byte) (rest : List Frame), Ready s →
     let now := { s with hli.input := rest }
     let takes := fun (kind : Byte) (address payload : List Byte) =>
       exec .takeFrame
         { s with hli.input := { kind := kind, seq := q, address := address, payload := payload } :: rest }
     (∀ unit item, takes 1 [unit, item] p = exec (.ask q unit item) now) ∧
     takes 2 [1, 1] p = exec (.tellGeometry q p) now ∧ takes 2 [0, 1] p = exec (.tellNoteMask q p) now ∧
     (∀ item, takes 2 [6, item] p = exec (.tellZoneEntry q item p) now) ∧
     (∀ l : Leg, takes 2 [9, BitVec.ofNat 8 l.index] p = exec (.tellSlipWindow q l p) now) ∧
     takes 3 [1] p = exec (.rise q) now ∧ takes 3 [2] p = exec (.settle q) now ∧
     (∀ n d, takes 3 [3] (n :: d :: p) = exec (.stride q n d) now) ∧
     takes 3 [4] p = exec (.stop q) now ∧ takes 3 [5] p = exec (.continueWalk q) now ∧
     takes 3 [6] p = exec (.reseat q) now ∧
     (∀ l, takes 3 [7] (l :: p) = exec (.calibrate q l) now ∧ takes 3 [8] (l :: p) = exec (.withdraw q l) now ∧
       takes 3 [9] (l :: p) = exec (.admitLeg q l) now ∧ takes 3 [12] (l :: p) = exec (.swap q l p) now) ∧
     (∀ l n, takes 3 [10] (l :: n :: p) = exec (.plan q l n p) now) ∧
     (∀ l tag, takes 3 [11] (l :: 0 :: tag :: p) = exec (.unplan q l tag) now) ∧
     (∀ l k, k ≠ 0 → takes 3 [11] (l :: k :: p) = exec (.unplanAll q l) now) ∧
     takes 3 [13] (1 :: p) = exec (.reflexesOn q) now ∧ takes 3 [13] (0 :: p) = exec (.reflexesOff q) now ∧
     takes 3 [14] p = exec (.resume q) now ∧ takes 3 [15] p = exec (.reset q) now ∧
     (∀ (kind : Byte) (address : List Byte), kind ≠ 1 → kind ≠ 2 → kind ≠ 3 →
       takes kind address p = .next (now.answered q .unknown (.bytes []))) ∧
     (∀ code : Byte, code = 0 ∨ 15 < code.toNat → takes 3 [code] p = .next (now.answered q .unknown (.bytes []))))

/-- R195, R196, R191, R193: a free transmitter begins the ANSWER, or else the oldest note, with the lost mark as its
flag. The end of a note frees the transmitter; the end of an ANSWER empties the slot too, takes the next frame, or
makes the warm reset that a DO RESET asked for. A RESET is answered OK in every state, and frames are taken no more. -/
def Obligations.TransmissionsAndTheResetTheyCarry : Prop :=
  (∀ s : State, s.hli.link = .framed → s.hli.tx = .free →
     (∀ a, s.hli.slot = some a → ∃ t, exec .transmitStart s = .next t ∧ t.hli.tx = .answer a ∧
       t = { s with hli.tx := t.hli.tx, hli.lineOut := t.hli.lineOut }) ∧
     (∀ n rest, s.hli.slot = none → s.hli.notes = n :: rest →
       ∃ t, exec .transmitStart s = .next t ∧ t.hli.tx = .note n s.hli.lost ∧ t.hli.notes = rest ∧
         t.hli.lost = false ∧
         t = { s with hli.tx := t.hli.tx, hli.notes := t.hli.notes, hli.lost := t.hli.lost,
                      hli.lineOut := t.hli.lineOut }) ∧
     (s.hli.slot = none → s.hli.notes = [] → exec .transmitStart s = .next s)) ∧
  (∀ s : State,
     (∀ n lost, s.hli.tx = .note n lost → exec .transmitDone s = .next { s with hli.tx := .free }) ∧
     (∀ a, s.hli.tx = .answer a → s.hli.resetTaken = false → s.hli.input = [] →
       exec .transmitDone s = .next { s with hli.tx := .free, hli.slot := none }) ∧
     (∀ a, s.hli.tx = .answer a → s.hli.resetTaken = false →
       exec .transmitDone s = exec .takeFrame { s with hli.tx := .free, hli.slot := none }) ∧
     (∀ a, s.hli.tx = .answer a → s.hli.resetTaken = true → exec .transmitDone s = exec .warmReset s)) ∧
  (∀ (s : State) (q : Byte), Ready s →
     exec (.reset q) s = .next (State.answered { s with hli.resetTaken := true } q .ok (.bytes [])))

/-! ## Items -/

/-- R192: an ASK changes nothing but the answer slot, and returns the item or ABSENT.
Contents without a given layout are answered as their fields: the model's choice (log entry 5). -/
def Obligations.AskReturnsTheItem : Prop :=
  ∀ (s : State) (q unit item : Byte), Ready s →
    exec (.ask q unit item) s =
      .next (match s.itemContent unit.toNat item.toNat with
        | some p => s.answered q .ok p
        | none => s.answered q .absent (.bytes [])) ∧
    s.itemContent 0 0 = some (.item (.identification "QB40" 3)) ∧
    s.itemContent 1 0 = some (.item (.body s.pc.body)) ∧
    s.itemContent 1 1 = some (.bytes (geometryBytes s.pc.geom s.pc.written)) ∧
    s.itemContent 1 2 = some (.item (.odometer s.ssq.odometer)) ∧
    (∀ (i : Nat) (e : ZoneEntry), i < 16 → s.ztb.entries[i]? = some e → s.itemContent 6 i = some (.bytes (zoneBytes e))) ∧
    s.itemContent 11 2 = some (.item (.support s.scu.stance s.scu.margin)) ∧
    (∀ l : Leg, (s.link l).withdrawn = true → ∀ i, s.itemContent (2 + l.index) i = none) ∧
    (∀ u i, 12 ≤ u → s.itemContent u i = none)

/-- R4. -/
def Obligations.GeometryIsToldInOrder : Prop :=
  ∀ (s : State) (q : Byte) (payload : List Byte), Ready s →
    (s.pc.protect = true → exec (.tellGeometry q payload) s = .next (s.answered q .latched (.bytes []))) ∧
    (s.pc.protect = false → s.pc.written = true →
      exec (.tellGeometry q payload) s = .next (s.answered q .once (.bytes []))) ∧
    (s.pc.protect = false → s.pc.written = false → payload.length ≠ 29 →
      exec (.tellGeometry q payload) s = .next (s.answered q .range (.bytes []))) ∧
    (∀ g, s.pc.protect = false → s.pc.written = false → geometryOfBytes payload = some g → g.inRanges = false →
      exec (.tellGeometry q payload) s = .next (s.answered q .range (.bytes []))) ∧
    (∀ g, s.pc.protect = false → s.pc.written = false → geometryOfBytes payload = some g → g.inRanges = true →
      exec (.tellGeometry q payload) s =
        .next (State.answered { s with pc.geom := g, pc.written := true } q .ok (.bytes [])))

/-- R68, R115: a told odometer replaces the value, and the zone in force is looked up anew. R114: the lookup finds the
first valid entry whose limit is at or above the odometer, or the built-in defaults where there is none. -/
def Obligations.OdometerIsToldAndLookedUp : Prop :=
  (∀ (s : State) (q : Byte) (v : Int), Ready s →
     (s.pc.protect = true → exec (.tellOdometer q v) s = .next (s.answered q .latched (.bytes []))) ∧
     (s.pc.protect = false → v < 0 ∨ 16777215 < v →
       exec (.tellOdometer q v) s = .next (s.answered q .range (.bytes []))) ∧
     (s.pc.protect = false → 0 ≤ v → v ≤ 16777215 →
       let new := lookupIn s.ztb.entries v.toNat
       let told := { s with ssq.odometer := v.toNat, ztb.inForce := new }
       exec (.tellOdometer q v) s =
         .next (State.answered
           (if new = s.ztb.inForce then told
             else told.postNote (.zone s.ztb.inForce new v.toNat .odometer)) q .ok (.bytes [])))) ∧
  (∀ (entries : List ZoneEntry) (odometer : Nat), entries.length = 16 →
     (∀ (i : Nat) (e : ZoneEntry), entries[i]? = some e → e.valid = true → odometer ≤ e.limit →
       lookupIn entries odometer ≤ i) ∧
     (lookupIn entries odometer = 255 ∨
       ∃ e, entries[lookupIn entries odometer]? = some e ∧ e.valid = true ∧ odometer ≤ e.limit))

/-- R110; and what passes the lock (R118, R119). -/
def Obligations.ZoneTellIsJudgedInOrder : Prop :=
  (∀ (s : State) (q index : Byte) (payload : List Byte), Ready s → index.toNat < 16 →
     let refused := fun st => exec (.tellZoneEntry q index payload) s = .next (s.answered q st (.bytes []))
     (s.pc.protect = true → refused .latched) ∧
     (s.pc.protect = false → payload.length ≠ 17 → refused .range) ∧
     (s.pc.protect = false → zoneOfBytes payload = none → refused .range) ∧
     (∀ e, s.pc.protect = false → zoneOfBytes payload = some e →
       let entries := s.ztb.entries.set index.toNat e
       let locking := s.pc.body = .walk ∨ s.pc.body = .hold ∨ s.pc.body = .recover
       (limitsRise entries = false → refused .order) ∧
       (limitsRise entries = true → locking → s.passesLock index.toNat e = false → refused .locked) ∧
       (limitsRise entries = true → ¬ locking ∨ s.passesLock index.toNat e = true →
         let new := lookupIn entries s.ssq.odometer
         let told := { s with ztb.entries := entries, ztb.inForce := new }
         exec (.tellZoneEntry q index payload) s =
           .next (State.answered
             (if new = s.ztb.inForce then told
               else told.postNote (.zone s.ztb.inForce new s.ssq.odometer .table)) q .ok (.bytes []))))) ∧
  (∀ (s : State) (index : Nat) (old e : ZoneEntry), s.ztb.entries[index]? = some old →
     (s.passesLock index e = true ↔
       lookupIn (s.ztb.entries.set index e) s.ssq.odometer = s.ztb.inForce ∧
         (s.ztb.inForce = index →
           e.params.stride ≤ old.params.stride ∧ old.params.clearance ≤ e.params.clearance ∧
             old.params.threshold ≤ e.params.threshold ∧ e.params.slipThreshold ≤ old.params.slipThreshold ∧
             e.limit = old.limit ∧ e.params.surface = old.params.surface ∧ e.params.order = old.params.order ∧
             e.params.swayLimit = old.params.swayLimit ∧ e.params.maxReplace = old.params.maxReplace ∧
             e.params.select = old.params.select)))

/-- R126, R127. -/
def Obligations.SlipWindowIsToldInOrder : Prop :=
  ∀ (s : State) (q : Byte) (l : Leg) (payload : List Byte), Ready s →
    let told := exec (.tellSlipWindow q l payload) s
    let refused := fun st => told = .next (s.answered q st (.bytes []))
    (s.pc.protect = true → refused .latched) ∧
    (s.pc.protect = false → payload.length < 2 → refused .range) ∧
    (∀ start length more, s.pc.protect = false → payload = start :: length :: more →
      (63 < start.toNat ∨ 16 < length.toNat ∨ 64 < start.toNat + length.toNat → refused .range) ∧
      (start.toNat ≤ 63 → length.toNat ≤ 16 → start.toNat + length.toNat ≤ 64 →
        let shared := ∃ k, k ≠ l ∧ ∃ slot, start.toNat ≤ slot ∧ slot < start.toNat + length.toNat ∧
          (s.slipOf k).start ≤ slot ∧ slot < (s.slipOf k).start + (s.slipOf k).length
        (shared → refused .overlap) ∧
        let window := { s.slipOf l with start := start.toNat, length := length.toNat, fill := 0,
                                        next := start.toNat, newest := none }
        (¬ shared → told =
          .next (State.answered { s with slm.legs := s.slm.legs.set l window } q .ok (.bytes [])))))

/-- R145, R197, R192: a told reflex table item and note mask, and a TELL of what cannot be written. Under the protect latch
every one but the mask is answered PROTECTED. That TELL_READ_ONLY carries no payload is the model's choice (log entry
40). -/
def Obligations.TableAndMaskAreTold : Prop :=
  ∀ (s : State) (q : Byte), Ready s →
    (∀ (code : Nat) (l : Leg) (k param : Nat), s.pc.protect = true →
      exec (.tellReflexTable q code l k param) s = .next (s.answered q .latched (.bytes []))) ∧
    (∀ (c : Cause) (l : Leg) (k : Kind) (param : Nat), s.pc.protect = false → k ≠ .crouch → param ≤ 150 →
      exec (.tellReflexTable q c.code l k.code param) s =
        .next (State.answered { s with rxu.table := s.rxu.table.set c ((s.rxu.table.get c).set l ⟨k, param⟩) }
          q .ok (.bytes []))) ∧
    (∀ (code : Nat) (l : Leg) (k param : Nat), s.pc.protect = false → code = 0 ∨ code = 7 →
      exec (.tellReflexTable q code l k param) s = .next (s.answered q .ok (.bytes []))) ∧
    (∀ (c : Cause) (l : Leg) (k param : Nat), s.pc.protect = false → 150 < param ∨ k = 0 ∨ 5 < k →
      exec (.tellReflexTable q c.code l k param) s = .next (s.answered q .range (.bytes []))) ∧
    (∀ lo hi : Byte, hi.toNat ≤ 1 →
      exec (.tellNoteMask q [lo, hi]) s = .next (State.answered { s with hli.mask := hi ++ lo } q .ok (.bytes []))) ∧
    (∀ lo hi : Byte, 2 ≤ hi.toNat → exec (.tellNoteMask q [lo, hi]) s = .next (s.answered q .range (.bytes []))) ∧
    (∀ payload : List Byte, payload.length ≠ 2 →
      exec (.tellNoteMask q payload) s = .next (s.answered q .range (.bytes []))) ∧
    (∀ unit item : Byte, s.pc.protect = false → writableItem unit.toNat item.toNat = false →
      (∀ l, unit.toNat = 2 + l.index → (s.link l).withdrawn = false) →
      exec (.tellReadOnly q unit item) s = .next (s.answered q .ok (.bytes []))) ∧
    (∀ unit item : Byte, s.pc.protect = true → writableItem unit.toNat item.toNat = false →
      exec (.tellReadOnly q unit item) s = .next (s.answered q .latched (.bytes []))) ∧
    (∀ (l : Leg) (unit item : Byte), s.pc.protect = false → unit.toNat = 2 + l.index → (s.link l).withdrawn = true →
      exec (.tellReadOnly q unit item) s = .next (s.answered q .absent (.bytes [])))

/-! ## Posture -/

/-- R6: the tests of a RISE in their order, as a chain; none when every test passes. -/
def riseRefusal (s : State) : Option Status :=
  if s.pc.protect = true then some .latched
  else if s.pc.body = .rising ∨ s.pc.body = .lowering then some .busy
  else if s.pc.body ≠ .rest then some .state
  else if s.pc.written = false then some .state
  else if (Leg.all.any fun l => decide ((s.link l).calib ≠ .idle)) = true then some .busy
  else if (Leg.all.any fun l => decide ((s.link l).withdrawn = false ∧ (s.link l).firstDone = false)) = true then
    some .state
  else if 1 < (Leg.all.filter fun l => (s.link l).withdrawn).length then some .state
  else if (Leg.all.any fun l => decide ((s.link l).withdrawn = false ∧ (s.link l).link ≠ .ok)) = true then some .state
  else none

/-- R6, R7: a refused RISE changes nothing but the answer. An accepted one clears the posture-safe flag, starts the rise
timer, and commands every admitted leg into STANCE at its rise target; a withdrawn leg keeps its command. -/
def Obligations.RiseIsJudgedAndBegins : Prop :=
  (∀ (s : State) (q : Byte), Ready s →
     (∀ st, riseRefusal s = some st → exec (.rise q) s = .next (s.answered q st (.bytes []))) ∧
     (riseRefusal s = none → ∃ t, exec (.rise q) s = .next t ∧ t.pc.body = .rising ∧
       t.hli = { (s.postNote (.body .rest .rising .host)).hli with
                 slot := some { seq := q, status := .ok, payload := .bytes [] } })) ∧
  (∀ (s : State) (q : Byte), Ready s → riseRefusal s = none →
     ∃ t, exec (.rise q) s = .next t ∧ t.pc.body = .rising ∧ t.pc.postureSafe = false ∧ t.pc.riseTimer = some 0 ∧
       t.pc.geom = s.pc.geom ∧ t.pc.written = s.pc.written ∧ t.pc.protect = s.pc.protect ∧
       (∀ l, (s.link l).withdrawn = false →
         t.modeOf l = .stance ∧ (t.cmdOf l).target =
           clampPoint ⟨(s.pc.geom.hip.get l).x,
             (s.pc.geom.hip.get l).y + (if l = .lf ∨ l = .lh then s.pc.geom.widening else -s.pc.geom.widening),
             s.pc.geom.stand⟩) ∧
       (∀ l, (s.link l).withdrawn = true → t.cmdOf l = s.cmdOf l) ∧
       t.atp = s.atp ∧ t.fhq = s.fhq ∧ t.ztb = s.ztb ∧ t.tdu = s.tdu ∧ t.pls = s.pls ∧ t.rxu.stack = s.rxu.stack ∧
       t.ssq.odometer = s.ssq.odometer)

/-- What R12 makes of a state: the body LOWERING, every admitted leg in STANCE over its commanded x and y at z -150,
the count 0, the legs to wait for, and no edge entry pending. -/
def lowered (s t : State) : Prop :=
  t.pc.body = .lowering ∧ t.pc.loweringTimer = some 0 ∧ t.pc.riseTimer = none ∧ t.ssq.count = 0 ∧
    t.scu.sway = s.scu.sway ∧
    (∀ l, (s.link l).withdrawn = false → t.modeOf l = .stance ∧
      (t.cmdOf l).target = clampPoint ⟨(s.cmdOf l).target.x, (s.cmdOf l).target.y, -150⟩) ∧
    (∀ l, (s.link l).withdrawn = true → t.cmdOf l = s.cmdOf l) ∧
    (∀ l, t.pc.lowered.get l = true ↔ (s.link l).withdrawn = false ∧ (s.link l).link = .ok) ∧
    (∀ e, e ∈ t.rxu.pending → e ∈ s.rxu.pending ∧ e.cause = .overload) ∧
    (∀ l, t.verifiedOf l = s.verifiedOf l ∧ (t.slipOf l).slip = false ∧ (t.slipOf l).lowForce = 0) ∧
    t.atp = s.atp ∧ t.fhq = s.fhq ∧ t.ztb = s.ztb ∧ t.tdu = s.tdu ∧ t.pc.geom = s.pc.geom ∧
    t.pc.protect = s.pc.protect

/-- R11, R12. A pending SLIP goes with its condition (R133); the premise says that every pending SLIP has one. -/
def Obligations.SettleIsJudgedByTheBodyState : Prop :=
  ∀ (s : State) (q : Byte), Ready s →
    let told := exec (.settle q) s
    (s.pc.body = .rest → told = .next (s.answered q .ok (.bytes []))) ∧
    (s.pc.body = .walk ∨ s.pc.body = .recover ∨ s.pc.body = .rising ∨ s.pc.body = .lowering →
      told = .next (s.answered q .busy (.bytes []))) ∧
    (s.pc.body = .stand ∨ s.pc.body = .hold ∨ s.pc.body = .unsettled → s.pls.reseat = true →
      told = .next (s.answered q .busy (.bytes []))) ∧
    (s.pc.body = .stand ∨ s.pc.body = .hold ∨ s.pc.body = .unsettled → s.pls.reseat = false → PendingSound s →
      ∃ t, told = .next t ∧ lowered s t ∧
        t.hli = { (s.postNote (.body s.pc.body .lowering .host)).hli with
                  slot := some { seq := q, status := .ok, payload := .bytes [] } })

/-- R9, R13: the rise timer starts a lowering; the lowering timer ends one in REST, every leg LIMP and unverified,
the sway returned and the posture-safe flag set. -/
def Obligations.PostureTimersRunOut : Prop :=
  ∀ s : State,
    (s.pc.body = .rising → PendingSound s → ∃ t, exec .riseTimeout s = .next t ∧ lowered s t ∧
      t.hli = ((s.postNote (.fault .riseFail none none)).postNote (.body .rising .lowering .timeout)).hli) ∧
    (s.pc.body = .lowering → ∃ t, exec .loweringTimeout s = .next t ∧ t.pc.body = .rest ∧
      t.pc.postureSafe = true ∧ t.pc.loweringTimer = none ∧ t.scu.sway = ⟨0, 0⟩ ∧
      (∀ l, t.modeOf l = .limp ∧ t.verifiedOf l = false ∧ t.inStance l = false ∧
        (t.cmdOf l).target = clampPoint (s.cmdOf l).target) ∧
      t.hli = ((s.postNote (.fault .settleTimeout none none)).postNote (.body .lowering .rest .timeout)).hli ∧
      t.atp = s.atp ∧ t.fhq = s.fhq ∧ t.ztb = s.ztb ∧ t.tdu = s.tdu ∧ t.pc.geom = s.pc.geom ∧
      t.ssq.odometer = s.ssq.odometer)

/-! ## Attitude and support -/

/-- R22, R23, R24, R25: an accepted sample enters the slots, ends staleness and makes the averaged vector; a rejected
or failed one adds to the count and changes nothing else. R21, R24: a data-ready starts a read, and one that finds a
read in progress makes that read a rejected sample; at 20 ms ATT_STALE is set, with one FAULT note a stale interval.
That a read acts whatever the mark of a read in progress, and that an expiry brings the time to 20, are the model's
choices (log entries 26 and 25). -/
def Obligations.SamplesAreJudgedAndAge : Prop :=
  (∀ s : State,
     (∀ v : Sample, 9437184 ≤ v.dx * v.dx + v.dy * v.dy + v.dz * v.dz →
       v.dx * v.dx + v.dy * v.dy + v.dz * v.dz ≤ 26214400 →
       ∃ t, exec (.sampleRead (some v)) s = .next t ∧ t.atp.since = 0 ∧ t.atp.reading = false ∧
         t.atp.rejected = s.atp.rejected ∧ t.scu.attStale = false ∧ t.scu.tipStale = false ∧
         (s.atp.slots = none → t.atp.slots = some ⟨v, v, v, v⟩ ∧
           t.scu.dbar = ⟨(4 * v.dx).tdiv 4, (4 * v.dy).tdiv 4, (4 * v.dz).tdiv 4⟩) ∧
         (∀ o, s.atp.slots = some o → t.atp.slots = some ⟨v, o.s0, o.s1, o.s2⟩ ∧
           t.scu.dbar = ⟨(v.dx + o.s0.dx + o.s1.dx + o.s2.dx).tdiv 4, (v.dy + o.s0.dy + o.s1.dy + o.s2.dy).tdiv 4,
             (v.dz + o.s0.dz + o.s1.dz + o.s2.dz).tdiv 4⟩)) ∧
     (∀ v : Sample, v.dx * v.dx + v.dy * v.dy + v.dz * v.dz < 9437184 ∨
       26214400 < v.dx * v.dx + v.dy * v.dy + v.dz * v.dz →
       exec (.sampleRead (some v)) s =
         .next { s with atp.reading := false, atp.rejected := min 65535 (s.atp.rejected + 1) }) ∧
     exec (.sampleRead none) s =
       .next { s with atp.reading := false, atp.rejected := min 65535 (s.atp.rejected + 1) }) ∧
  (∀ s : State,
     (s.atp.reading = false → exec .attitudeDataReady s = .next { s with atp.reading := true }) ∧
     (s.atp.reading = true → exec .attitudeDataReady s =
       .next { s with atp.rejected := min 65535 (s.atp.rejected + 1) }) ∧
     (s.scu.attStale = false → exec .staleTimeout s =
       .next (State.postNote { s with atp.since := max 20 s.atp.since, scu.attStale := true }
         (.fault .attStale none none))) ∧
     (s.scu.attStale = true → exec .staleTimeout s = .next { s with atp.since := max 20 s.atp.since }))

/-- R143: a context that records the activity under way. -/
def interrupts (s : State) (c : Context) : Prop :=
  let attempts := if s.pls.placement.isSome = true then s.pls.attempt else 0
  (∀ r, s.rxu.running = some r → c = .recover r) ∧
    (s.rxu.running = none →
      (s.pls.reseat = true →
        c = .reseat s.pls.origin s.pls.pass s.ssq.count s.ssq.dir s.ssq.next attempts) ∧
      (s.pls.reseat = false →
        (s.pc.body = .walk → s.ssq.phase = .pause → c = .walk none 1 .pause s.ssq.count s.ssq.dir 0) ∧
        (s.pc.body = .walk → s.ssq.phase ≠ .pause →
          c = .walk s.ssq.stepping s.ssq.index s.ssq.phase s.ssq.count s.ssq.dir attempts) ∧
        (s.pc.body = .stand → c = .stand) ∧ (s.pc.body = .unsettled → c = .unsettled) ∧
        (s.pc.body = .hold → c = .hold s.ssq.next s.ssq.count s.ssq.dir)))

/-- R142, R143, R155, R69: what a TIP taken by a CROUCH makes of a state: the interrupted activity on the stack, the body in
RECOVER, the stance legs sent to the crouch height, a leg in the air sent down where it was last reported. -/
def crouchTaken (s t : State) : Prop :=
  t.pc = { s.pc with body := .recover } ∧ t.rxu.crouch = .running ∧ t.rxu.re1 = false ∧ t.rxu.re2 = s.rxu.re2 ∧
    t.rxu.stageTimer = some 0 ∧ t.rxu.liftTimer = none ∧ t.rxu.pending = s.rxu.pending ∧ t.rxu.table = s.rxu.table ∧
    t.rxu.dropped = s.rxu.dropped ∧ (∃ c, t.rxu.stack = c :: s.rxu.stack ∧ interrupts s c) ∧
    (∃ r, t.rxu.running = some r ∧ r.kind = .crouch ∧ r.trigger = .tip ∧ r.leg = none ∧ r.stage = .crouch) ∧
    (∀ l, t.rxu.crouching.get l = true ↔ (s.link l).withdrawn = false ∧ (s.link l).link = .ok ∧
      (s.modeOf l = .stance ∨ s.inAir l)) ∧
    t.ssq.phase = .idle ∧ t.ssq.stepping = none ∧ t.ssq.stopMark = false ∧ t.ssq.phaseTimer = none ∧
    t.pls.placement = none ∧ t.pls.placeTimer = none ∧ t.pls.reswingTimer = none ∧ t.pls.reseat = false ∧
    (∀ l, s.modeOf l = .stance → t.modeOf l = .stance ∧ (t.cmdOf l).target =
      clampPoint ⟨(s.cmdOf l).target.x, (s.cmdOf l).target.y, s.pc.geom.crouch⟩) ∧
    (∀ l, s.inAir l → t.modeOf l = .placing ∧ (t.cmdOf l).target =
      clampPoint ⟨(s.footOf l).x, (s.footOf l).y, s.pc.geom.crouch⟩) ∧
    (∀ l, s.modeOf l = .limp ∨ s.modeOf l = .hold ∨ s.modeOf l = .calib → t.cmdOf l = s.cmdOf l) ∧
    t.ssq.verified = s.ssq.verified ∧ t.ssq.odometer = s.ssq.odometer ∧ t.ssq.count = s.ssq.count ∧
    (FootholdsSound s → ∀ l, (t.queueOf l).entries = (s.queueOf l).entries.map fun e => { e with inUse := false }) ∧
    t.scu = { s.scu with tipCondition := true, tipRaised := true, survey := false, surveyTimer := none } ∧
    t.hli = (let noted := s.postNote (.reflex .taken .tip none (some .crouch) (s.rxu.stack.length + 1))
             if s.pc.body = .recover then noted else noted.postNote (.body s.pc.body .recover .reflex)).hli ∧
    t.atp = s.atp ∧ t.ztb = s.ztb ∧ t.tdu = s.tdu

/-- R25, R39, R40, R142, R154, R155: at 200 ms without a sample the staleness condition holds. In a tested state TIP is
raised and taken by a CROUCH, whatever RE1 and the pending list hold. In an untested state nothing is raised. R41:
the end of the survey is a test of the TIP condition; where it holds, TIP is raised and taken; where it does not, the
body stands on. That this expiry implies the one of 20 ms, that IDLE is the phase of what stands aside, and that the
published condition keeps its value where it is not tested are the model's choices (log entries 25, 13 and 37). -/
def Obligations.StalenessRaisesTipAndSurveysEnd : Prop :=
  (∀ s : State,
     (s.tipTested = true → s.scu.tipRaised = false → s.pc.protect = false → s.rxu.crouch = .clear →
       s.rxu.stack.length < 4 → OneLegInAir s → ∃ t, exec .tipStaleTimeout s = .next t ∧
         (let noted := if s.scu.attStale = true then s else s.postNote (.fault .attStale none none)
          crouchTaken { noted with atp.since := max 200 (max 20 s.atp.since), scu.attStale := true,
                                   scu.tipStale := true } t)) ∧
     (s.tipTested = false → ∃ t, exec .tipStaleTimeout s = .next t ∧ t.scu.tipStale = true ∧
       t.scu.attStale = true ∧ t.pc = s.pc ∧ t.rxu = s.rxu ∧ t.ssq = s.ssq ∧ t.pls = s.pls ∧ t.llc = s.llc ∧
       t.scu.tipRaised = false)) ∧
  (∀ s : State, s.scu.survey = true →
     (s.tipHolds = false →
       ∃ t, exec .surveyTimeout s = .next t ∧ t.scu.survey = false ∧ t.scu.surveyTimer = none ∧
         t.scu.tipRaised = false ∧
         t = { s with scu := { s.scu with survey := false, surveyTimer := none, tipRaised := false,
                                          tipCondition := t.scu.tipCondition } } ∧
         (s.pc.body = .unsettled → t.scu.tipCondition = false)) ∧
     (s.tipHolds = true → s.pc.body = .unsettled → s.scu.tipRaised = false → s.pc.protect = false →
       s.rxu.crouch = .clear → s.rxu.stack.length < 4 → OneLegInAir s →
       ∃ t, exec .surveyTimeout s = .next t ∧
         crouchTaken { s with scu.survey := false, scu.surveyTimer := none } t))

/-! ## Walking -/

/-- R48: the tests of a STRIDE in their order, as a chain; none when every test passes. -/
def strideRefusal (s : State) (count dir : Byte) : Option Status :=
  if s.pc.protect = true then some .latched
  else if s.pc.body = .rest ∨ s.pc.body = .unsettled then some .state
  else if s.pc.body ≠ .stand then some .busy
  else if s.pls.reseat = true then some .busy
  else if count = 0 ∨ 1 < dir.toNat then some .range
  else if (Leg.all.any fun l => decide ((s.link l).withdrawn = true ∨ (s.link l).link ≠ .ok)) = true then some .state
  else if (Leg.all.any fun l => decide (s.modeOf l ≠ .stance ∨ s.verifiedOf l = false)) = true then some .state
  else if 3 ≤ s.tdu.body then some .state
  else if s.scu.attStale = true then some .state
  else if s.rxu.pending ≠ [] then some .state
  else none

/-- R48: a refused STRIDE changes nothing but the answer; an accepted one is answered OK, or CLAMPED for a count above
127. R49, R50, R51, R54: an accepted STRIDE that raises no TIP walks: the order latched from the zone in force,
reversed for BACKWARD, and a SHIFT of its first leg with the step parameters latched.
The TIP test comes once the SHIFT is in place: the model's choice (log entry 9). -/
def Obligations.StrideIsJudgedAndBegins : Prop :=
  (∀ (s : State) (q count dir : Byte), Ready s →
     (∀ st, strideRefusal s count dir = some st →
       exec (.stride q count dir) s = .next (s.answered q st (.bytes []))) ∧
     (strideRefusal s count dir = none → ∃ t, exec (.stride q count dir) s = .next t ∧
       t.hli.slot = some { seq := q, status := if 127 < count.toNat then .clamped else .ok, payload := .bytes [] } ∧
       t.ssq.count = min 127 count.toNat ∧ t.ssq.dir = (if dir = 0 then .forward else .backward))) ∧
  (∀ (s : State) (q count dir : Byte), Ready s → strideRefusal s count dir = none → Steady s →
     ∃ t, exec (.stride q count dir) s = .next t ∧ t.pc = { s.pc with body := .walk } ∧
       t.ssq.count = min 127 count.toNat ∧ t.ssq.stopMark = false ∧ t.ssq.phase = .shift ∧ t.ssq.index = 1 ∧
       t.ssq.phaseTimer = some 0 ∧ t.ssq.stepping = some t.ssq.order.first ∧
       (dir = 0 → t.ssq.order = s.zone.order) ∧
       (dir = 1 → t.ssq.order = ⟨s.zone.order.fourth, s.zone.order.third, s.zone.order.second, s.zone.order.first⟩) ∧
       t.ssq.latched = { stride := s.zone.stride, clearance := s.zone.clearance, threshold := s.zone.threshold,
                         swayLimit := s.zone.swayLimit, maxReplace := s.zone.maxReplace,
                         surface := s.zone.surface, derate := s.tdu.body,
                         effective := (s.zone.stride * (4 - (s.tdu.body : Int))).tdiv 4 } ∧
       t.ssq.cmd = s.ssq.cmd ∧ t.ssq.verified = s.ssq.verified ∧ t.ssq.odometer = s.ssq.odometer ∧
       t.hli = { (s.postNote (.body .stand .walk .host)).hli with
                 slot := some { seq := q, status := if 127 < count.toNat then .clamped else .ok, payload := .bytes [] } } ∧
       t.atp = s.atp ∧ t.pls = s.pls ∧ t.fhq = s.fhq ∧ t.ztb = s.ztb ∧ t.slm = s.slm ∧ t.rxu = s.rxu ∧
       t.llc = s.llc ∧ t.tdu = s.tdu ∧ t.scu.sway = s.scu.sway ∧ t.scu.margin = s.scu.margin)

/-- The walk is over: IDLE, no stepping leg, no next step, no stop mark. -/
def walkEnded (t : State) : Prop :=
  t.ssq.phase = .idle ∧ t.ssq.stepping = none ∧ t.ssq.next = none ∧ t.ssq.stopMark = false ∧ t.ssq.phaseTimer = none

/-- R66, R67, R64: a STOP by the phase and the body state it meets. In STAND with no TIP due and no rise of RE1
waiting, the body stays.
That no stepping leg and no stop mark are left is the model's choice (log entries 13 and 45). -/
def Obligations.StopActsByPhaseAndState : Prop :=
  ∀ (s : State) (q : Byte), Ready s →
    let told := exec (.stop q) s
    let ended := State.postNote (s.postNote (.stride s.ssq.count s.ssq.odometer)) (.body s.pc.body .stand .host)
    (s.pc.protect = true → told = .next (s.answered q .latched (.bytes []))) ∧
    (s.pc.protect = false →
      (s.pc.body = .walk → s.ssq.phase = .swing ∨ s.ssq.phase = .place ∨ s.ssq.phase = .propel →
        told = .next (State.answered { s with ssq.stopMark := true } q .ok (.bytes []))) ∧
      (s.pc.body = .walk → s.ssq.phase = .shift ∨ s.ssq.phase = .pause → Steady s → s.rxu.waiting = false →
        ∃ t, told = .next t ∧ t.pc = { s.pc with body := .stand } ∧ t.ssq.count = 0 ∧ walkEnded t ∧
          t.scu.sway = s.scu.sway ∧ t.ssq.cmd = s.ssq.cmd ∧ t.ssq.odometer = s.ssq.odometer ∧ t.rxu = s.rxu ∧
          t.hli = { ended.hli with slot := some { seq := q, status := .ok, payload := .bytes [] } } ∧
          t.atp = s.atp ∧ t.pls = s.pls ∧ t.fhq = s.fhq ∧ t.ztb = s.ztb ∧ t.slm = s.slm ∧ t.llc = s.llc ∧
          t.tdu = s.tdu) ∧
      (s.pc.body = .hold → s.pls.reseat = false → Steady s → s.rxu.waiting = false →
        ∃ t, told = .next t ∧ t.pc = { s.pc with body := .stand } ∧ t.ssq = { s.ssq with count := 0, next := none } ∧
          t.rxu = { s.rxu with pending := s.rxu.pending.filter fun e => e.cause.level } ∧
          t.scu.sway = s.scu.sway ∧
          t.hli = { ended.hli with slot := some { seq := q, status := .ok, payload := .bytes [] } } ∧
          t.atp = s.atp ∧ t.pls = s.pls ∧ t.fhq = s.fhq ∧ t.ztb = s.ztb ∧ t.slm = s.slm ∧ t.llc = s.llc ∧
          t.tdu = s.tdu) ∧
      (s.pc.body = .hold → s.pls.reseat = true → told = .next (s.answered q .busy (.bytes []))) ∧
      (s.pc.body = .stand → told = .next (s.answered q .ok (.bytes []))) ∧
      (s.pc.body = .recover ∨ s.pc.body = .rising ∨ s.pc.body = .lowering →
        told = .next (s.answered q .busy (.bytes []))) ∧
      (s.pc.body = .rest ∨ s.pc.body = .unsettled → told = .next (s.answered q .state (.bytes []))))

/-- R65: the tests of a CONTINUE in their order, as a chain; none when every test passes. -/
def continueRefusal (s : State) : Option Status :=
  if s.pc.protect = true then some .latched
  else if s.pc.body = .rising ∨ s.pc.body = .lowering then some .busy
  else if s.pc.body ≠ .hold then some .state
  else if s.pls.reseat = true then some .busy
  else if s.rxu.pending ≠ [] then some .state
  else if 3 ≤ s.tdu.body then some .state
  else if s.scu.attStale = true then some .state
  else if (Leg.all.any fun l => decide ((s.link l).withdrawn = true ∨ (s.link l).link ≠ .ok ∨
      s.modeOf l ≠ .stance ∨ s.verifiedOf l = false)) = true then some .state
  else if s.ssq.next = none ∨ s.ssq.count = 0 then some .state
  else none

/-- R65: a refused CONTINUE changes nothing but the answer; an accepted one that raises no TIP walks on at the
next-step record.
The TIP test comes once the SHIFT is in place: the model's choice (log entry 9). -/
def Obligations.ContinueIsJudgedInOrder : Prop :=
  ∀ (s : State) (q : Byte), Ready s →
    (∀ st, continueRefusal s = some st → exec (.continueWalk q) s = .next (s.answered q st (.bytes []))) ∧
    (∀ n, continueRefusal s = none → s.ssq.next = some n → Steady s →
      ∃ t, exec (.continueWalk q) s = .next t ∧ t.pc = { s.pc with body := .walk } ∧ t.ssq.stopMark = false ∧
        t.ssq.phase = .shift ∧ t.ssq.stepping = some n.leg ∧ t.ssq.index = n.index ∧
        t.ssq.phaseTimer = some 0 ∧ t.ssq.count = s.ssq.count ∧ t.ssq.dir = s.ssq.dir ∧
        (n.index ≠ 1 → t.ssq.order = s.ssq.order) ∧ t.ssq.cmd = s.ssq.cmd ∧
        t.hli = { (s.postNote (.body .hold .walk .host)).hli with
                  slot := some { seq := q, status := .ok, payload := .bytes [] } } ∧
        t.atp = s.atp ∧ t.pls = s.pls ∧ t.fhq = s.fhq ∧ t.ztb = s.ztb ∧ t.slm = s.slm ∧ t.rxu = s.rxu ∧
        t.llc = s.llc ∧ t.tdu = s.tdu ∧ t.scu.sway = s.scu.sway)

/-- What a walk that holds leaves as it was. -/
def heldBefore (s t : State) : Prop :=
  t.pc = { s.pc with body := .hold } ∧ t.ssq.phase = .idle ∧ t.ssq.stepping = none ∧ t.ssq.phaseTimer = none ∧
    t.scu.sway = s.scu.sway ∧ t.ssq.odometer = s.ssq.odometer ∧ t.ssq.cmd = s.ssq.cmd ∧ t.ssq.count = s.ssq.count ∧
    t.atp = s.atp ∧ t.pls = s.pls ∧ t.fhq = s.fhq ∧ t.ztb = s.ztb ∧ t.slm = s.slm ∧ t.rxu = s.rxu ∧
    t.llc = s.llc ∧ t.tdu = s.tdu

/-- R57, R62: in a walk, the stall timer of a SHIFT holds before that step, and the propel timer before the step after
it; the FAULT note STALL comes before the BODY note. R64, R52, R54: the end of a PAUSE at which nothing holds the walk:
a SHIFT of the first leg of the order latched anew, at step index 1.
That the phase is IDLE with no stepping leg in HOLD is the model's choice (log entry 13); an expiry acts whatever its
counter reads (log entry 4). -/
def Obligations.StallsHoldAndPausesEnd : Prop :=
  (∀ (s : State) (l : Leg), s.pc.body = .walk → s.pc.protect = false → Striding s → Steady s → s.rxu.waiting = false →
     s.ssq.stepping = some l →
     let noted := (s.postNote (.fault .stall (some l) none)).postNote (.body .walk .hold .fault)
     (s.ssq.phase = .shift → ∃ t, exec .shiftStall s = .next t ∧ heldBefore s t ∧
       t.ssq.next = some ⟨l, s.ssq.index⟩ ∧ t.hli = noted.hli) ∧
     (s.ssq.phase = .propel → s.ssq.stopMark = false → s.ssq.index < 4 →
       ∃ t, exec .propelStall s = .next t ∧ heldBefore s t ∧
         t.ssq.next = some ⟨s.ssq.order.nth (s.ssq.index + 1), s.ssq.index + 1⟩ ∧ t.hli = noted.hli)) ∧
  (∀ s : State, s.ssq.phase = .pause → s.pc.protect = false → s.ssq.stopMark = false → s.rxu.waiting = false →
     s.rxu.pending = [] → s.tdu.body < 3 → s.scu.attStale = false →
     ∃ t, exec .pauseEnd s = .next t ∧ t.ssq.phase = .shift ∧ t.ssq.index = 1 ∧ t.ssq.phaseTimer = some 0 ∧
       t.ssq.order = s.zone.order.walked s.ssq.dir ∧ t.ssq.stepping = some t.ssq.order.first ∧
       t.ssq.latched.derate = s.tdu.body ∧ t.ssq.latched.stride = s.zone.stride ∧ t.ssq.count = s.ssq.count ∧
       t = { s with ssq := t.ssq })

/-- R59, R60, R74, R80, R137: the swing timer of a step raises OBSTRUCT; where reflexes are not live the cause waits on
the list, and the placement begins from wherever the foot is. A RESWING that times out does the same, and LOWER is
entered again.
An expiry acts whatever its counter reads (log entry 4). -/
def Obligations.SwingsThatTimeOutAreLowered : Prop :=
  (∀ (s : State) (l : Leg), s.ssq.phase = .swing → s.ssq.stepping = some l → s.pc.protect = false →
     s.pc.body.standing = true → (s.link l).withdrawn = false → s.rxu.re1 = false → s.modeOf l = .swing →
     OneLegInAir s → StanceSetCurrent s →
     ∃ t, exec .swingTimeout s = .next t ∧ t.ssq.phase = .place ∧ t.pls.placement = some l ∧
       t.pls.sub = .lower ∧ t.pls.attempt = 0 ∧ t.pls.placeTimer = some 0 ∧ t.modeOf l = .placing ∧
       t.pls.target = (s.cmdOf l).target ∧ t.pls.attemptTarget = (s.cmdOf l).target ∧
       t.pls.liftClearance = (s.cmdOf l).clearance ∧ t.pls.maxReplace = s.ssq.latched.maxReplace ∧
       t.pls.surface = s.ssq.latched.surface ∧
       t.rxu.pending = (if ⟨.obstruct, l⟩ ∈ s.rxu.pending then s.rxu.pending
         else s.rxu.pending ++ [⟨.obstruct, l⟩]) ∧
       (∀ k, k ≠ l → t.cmdOf k = s.cmdOf k) ∧ t.pc = s.pc ∧ t.fhq = s.fhq ∧ t.atp = s.atp ∧ t.ztb = s.ztb ∧
       t.tdu = s.tdu ∧ t.scu = s.scu ∧ t.hli = s.hli) ∧
  (∀ (s : State) (l : Leg), s.pls.placement = some l → s.pls.sub = .reswing → s.pc.protect = false →
     (s.link l).link ≠ .lost → s.pc.body.standing = true → (s.link l).withdrawn = false → s.rxu.re1 = false →
     s.modeOf l = .swing → OneLegInAir s → StanceSetCurrent s →
     ∃ t, exec .reswingTimeout s = .next t ∧ t.pls.sub = .lower ∧ t.pls.reswingTimer = none ∧
       t.pls.placeTimer = some 0 ∧ t.pls.attempt = s.pls.attempt ∧ t.pls.attemptTarget = s.pls.attemptTarget ∧
       t.modeOf l = .placing ∧ (t.cmdOf l).target = clampPoint s.pls.attemptTarget ∧
       t.rxu.pending = (if ⟨.obstruct, l⟩ ∈ s.rxu.pending then s.rxu.pending
         else s.rxu.pending ++ [⟨.obstruct, l⟩]) ∧
       (∀ k, k ≠ l → t.cmdOf k = s.cmdOf k) ∧ t.pc = s.pc ∧ t.scu = s.scu ∧ t.hli = s.hli ∧ t.fhq = s.fhq ∧
       t.atp = s.atp ∧ t.ztb = s.ztb ∧ t.tdu = s.tdu ∧ t.ssq.phase = s.ssq.phase)

/-! ## Placement and reseating -/

/-- R79: the target of re-place attempt k, from the entry's alternate k or by probing. R76, R78, R79, R80, R82: an attempt
judged on the place timer. Below the re-place count handed over, the next attempt begins in RESWING at its own target,
with half the lift clearance. At that count, or with the link LOST, the placement ends; in a stride whose reflexes are
not live the entry in use is discarded, PLACE_FAIL waits on the list, and the walk holds.
That an exhausted placement clears the flag once more, and that the phase is IDLE in HOLD, are the model's choices (log
entries 43 and 13). -/
def Obligations.ThePlaceTimerJudgesTheAttempt : Prop :=
  (∀ (s : State) (k : Nat), 1 ≤ k →
     (∀ (e : Foothold) (a : Pair), s.pls.entry = some e → e.alternates[k - 1]? = some a →
       s.attemptPoint k = clampPoint ⟨s.pls.target.x + a.x, s.pls.target.y + a.y, s.pls.target.z⟩) ∧
     ((s.pls.entry = none ∨ ∃ e, s.pls.entry = some e ∧ e.alternates.length < k) →
       s.attemptPoint k = clampPoint ⟨s.pls.target.x, s.pls.target.y,
         max (s.pls.target.z - s.pls.surface.probe * k) (s.pls.target.z - 60)⟩)) ∧
  (∀ (s : State) (l : Leg), s.pls.placement = some l → s.pls.sub = .lower → s.pc.protect = false →
     OneLegInAir s → StanceSetCurrent s → s.modeOf l = .placing →
     ((s.link l).link ≠ .lost → s.pls.attempt < s.pls.maxReplace →
       ∃ t, exec .placeTimeout s = .next t ∧ t.pls.attempt = s.pls.attempt + 1 ∧ t.pls.sub = .reswing ∧
         t.pls.attemptTarget = s.attemptPoint (s.pls.attempt + 1) ∧ t.pls.placeTimer = none ∧
         t.pls.reswingTimer = some 0 ∧ t.modeOf l = .swing ∧ (t.cmdOf l).target = s.attemptPoint (s.pls.attempt + 1) ∧
         (t.cmdOf l).clearance = s.pls.liftClearance.tdiv 2 ∧ t.verifiedOf l = false ∧
         (∀ k, k ≠ l → t.cmdOf k = s.cmdOf k ∧ t.verifiedOf k = s.verifiedOf k) ∧
         t.pls.placement = some l ∧ t.pls.target = s.pls.target ∧ t.pc = s.pc ∧ t.fhq = s.fhq ∧ t.rxu = s.rxu ∧
         t.scu = s.scu ∧ t.hli = s.hli ∧ t.atp = s.atp ∧ t.ztb = s.ztb ∧ t.tdu = s.tdu ∧ t.ssq.phase = s.ssq.phase) ∧
     ((s.link l).link = .lost ∨ s.pls.maxReplace ≤ s.pls.attempt → Striding s → s.pc.body = .walk →
       (s.link l).withdrawn = false → s.rxu.re1 = false → s.rxu.waiting = false → s.ssq.stopMark = false →
       Steady s → s.ssq.index < 4 →
       ∃ t, exec .placeTimeout s = .next t ∧ t.pls.placement = none ∧ t.pls.placeTimer = none ∧
         t.pls.entry = none ∧ t.pls.attempt = s.pls.attempt ∧ t.pc = { s.pc with body := .hold } ∧
         t.ssq.phase = .idle ∧ t.ssq.next = some ⟨s.ssq.order.nth (s.ssq.index + 1), s.ssq.index + 1⟩ ∧
         t.ssq.cmd = s.ssq.cmd ∧ t.verifiedOf l = false ∧ t.ssq.count = s.ssq.count ∧
         t.rxu.pending = (if ⟨.placeFail, l⟩ ∈ s.rxu.pending then s.rxu.pending
           else s.rxu.pending ++ [⟨.placeFail, l⟩]) ∧
         (s.pls.entry.isSome = true → ∀ e rest, (s.queueOf l).entries = e :: rest →
           (t.queueOf l).entries = rest ∧ (t.queueOf l).discarded = some e.tag ∧
           (t.queueOf l).consumed = (s.queueOf l).consumed) ∧
         (s.pls.entry = none → t.fhq = s.fhq) ∧
         t.scu.sway = s.scu.sway ∧ t.ssq.odometer = s.ssq.odometer ∧ t.atp = s.atp ∧ t.ztb = s.ztb ∧ t.tdu = s.tdu))

/-- R85, R86: a RESEAT is judged in its order; an accepted one examines every admitted leg in polygon order and
reseats the first that fails, or succeeds at once where none does. R88: success by its origin: in HOLD the STRIDE note,
the count 0 and STAND; in UNSETTLED, STAND. R89: the stall timer of a reseat SHIFT ends the procedure in failure: STALL,
then RESEAT_FAIL, then from STAND a HOLD with the count 0 and no next step; from HOLD and UNSETTLED the body state stays.
That the reseat set is emptied at a failure is the model's choice (log entry 52). -/
def Obligations.ReseatIsJudgedInOrder : Prop :=
  (∀ (s : State) (q : Byte), Ready s →
    let told := exec (.reseat q) s
    let fails := fun l => (s.link l).withdrawn = false ∧ (s.verifiedOf l = false ∨ ¬ s.loadedAt s.contactInForce l = true)
    (s.pc.protect = true → told = .next (s.answered q .latched (.bytes []))) ∧
    (s.pc.protect = false →
      (s.pc.body = .walk ∨ s.pc.body = .recover ∨ s.pc.body = .rising ∨ s.pc.body = .lowering →
        told = .next (s.answered q .busy (.bytes []))) ∧
      (s.pc.body = .rest → told = .next (s.answered q .state (.bytes []))) ∧
      (s.pc.body = .stand ∨ s.pc.body = .hold ∨ s.pc.body = .unsettled → s.pls.reseat = true →
        told = .next (s.answered q .busy (.bytes []))) ∧
      (s.pc.body = .stand ∨ s.pc.body = .hold ∨ s.pc.body = .unsettled → s.pls.reseat = false →
        (∀ l, fails l → ∃ t first, told = .next t ∧ t.pls.reseat = true ∧ t.pls.pass = 1 ∧
          t.pls.origin.body = s.pc.body ∧ t.pls.reseatLeg = some first ∧ t.pls.reseatSet.head? = some first ∧
          (∀ k, k ∈ t.pls.reseatSet ↔ fails k) ∧ t.pls.reseatSet.Sublist [.lf, .lh, .rh, .rf] ∧
          t.ssq.phase = .shift ∧ t.ssq.stepping = some first ∧ t.ssq.index = s.ssq.index ∧
          t.ssq.order = s.ssq.order ∧ t.ssq.phaseTimer = some 0 ∧
          t = State.answered { s with pls := t.pls, ssq := t.ssq } q .ok (.bytes [])) ∧
        ((∀ l, ¬ fails l) → s.pc.body = .stand →
          ∃ t, told = .next t ∧ t.pls.reseat = false ∧ t.pls.reseatSet = [] ∧ t.ssq.phase = .idle ∧ t.pc = s.pc ∧
            t.hli = { (s.postNote (.step none 0 s.scu.margin)).hli with
                      slot := some { seq := q, status := .ok, payload := .bytes [] } } ∧
            t = { s with pls := t.pls, ssq := t.ssq, hli := t.hli }) ∧
        ((∀ l, ¬ fails l) → s.pc.body = .hold ∨ s.pc.body = .unsettled → Steady s → s.rxu.waiting = false →
          let closing := s.postNote (.step none 0 s.scu.margin)
          ∃ t, told = .next t ∧ t.pc = { s.pc with body := .stand } ∧ t.pls.reseat = false ∧ t.pls.reseatSet = [] ∧
            t.pls.reseatLeg = none ∧ t.pls.pass = 1 ∧ t.pls.origin = s.pc.body.origin ∧
            (s.pc.body = .hold →
              t.ssq = { s.ssq with phase := .idle, stepping := none, phaseTimer := none, count := 0, next := none } ∧
              t.hli = { ((closing.postNote (.stride s.ssq.count s.ssq.odometer)).postNote
                          (.body .hold .stand .done)).hli with
                        slot := some { seq := q, status := .ok, payload := .bytes [] } }) ∧
            (s.pc.body = .unsettled →
              t.ssq = { s.ssq with phase := .idle, stepping := none, phaseTimer := none } ∧
              t.hli = { (closing.postNote (.body .unsettled .stand .done)).hli with
                        slot := some { seq := q, status := .ok, payload := .bytes [] } }) ∧
            t.rxu = s.rxu ∧ t.scu.sway = s.scu.sway ∧ t.scu.margin = s.scu.margin ∧
            t = { s with pc := t.pc, pls := t.pls, ssq := t.ssq, scu := t.scu, hli := t.hli })))) ∧
  (∀ (s : State) (l : Leg), s.pls.reseat = true → s.rxu.running = none → s.ssq.phase = .shift →
     s.ssq.stepping = some l → s.pc.protect = false →
     s.pc.body = .stand ∨ s.pc.body = .hold ∨ s.pc.body = .unsettled → s.pls.origin = s.pc.body.origin →
     let faults := (s.postNote (.fault .stall (some l) none)).postNote (.fault .reseatFail none none)
     let stopped := { s.pls with reseat := false, reseatSet := [], reseatLeg := none }
     let idle := { s.ssq with phase := .idle, stepping := none, phaseTimer := none }
     (s.pc.body = .stand → Steady s → s.rxu.waiting = false →
       ∃ t, exec .shiftStall s = .next t ∧ t.pc = { s.pc with body := .hold } ∧ t.pls = stopped ∧
         t.ssq = { idle with count := 0, next := none } ∧
         t.hli = (faults.postNote (.body .stand .hold .fault)).hli ∧
         t.rxu = s.rxu ∧ t.scu.sway = s.scu.sway ∧ t.scu.margin = s.scu.margin ∧
         t = { s with pc := t.pc, pls := t.pls, ssq := t.ssq, scu := t.scu, hli := t.hli }) ∧
     (s.pc.body ≠ .stand →
       exec .shiftStall s = .next { s with pls := stopped, ssq := idle, hli := faults.hli }))

/-! ## Calibrating, withdrawing and admitting a leg -/

/-- R170: the tests of a CALIBRATE in their order, as a chain; none when every test passes. -/
def calibrateRefusal (s : State) (operand : Byte) : Option Status :=
  if s.pc.protect = true then some .latched
  else
    match Leg.ofIndex? operand.toNat with
    | none => some .range
    | some l =>
      if (s.link l).withdrawn = true then some .absent
      else if s.pc.body = .rising ∨ s.pc.body = .lowering then some .busy
      else if s.pc.body ≠ .rest then some .state
      else if (s.link l).calib ≠ .idle then some .busy
      else if (s.link l).link ≠ .ok then some .state
      else none

/-- R170: a refused CALIBRATE changes nothing but the answer; an accepted one commands the leg into CALIB, enters
AWAIT_BUSY and starts the calibration timer. R171, R172: a calibration that times out leaves the leg LIMP with its
first-done flag as it was and a FAULT note; one whose settle ends leaves it LIMP with the flag set and a CALIB note
that carries DONE. A taken report moves the calibration on by its BUSY and DONE flags alone. -/
def Obligations.CalibrateIsJudgedAndEnds : Prop :=
  (∀ (s : State) (q operand : Byte), Ready s →
     (∀ st, calibrateRefusal s operand = some st →
       exec (.calibrate q operand) s = .next (s.answered q st (.bytes []))) ∧
     (∀ l, calibrateRefusal s operand = none → Leg.ofIndex? operand.toNat = some l →
       ∃ t, exec (.calibrate q operand) s = .next t ∧
         t.hli = { s.hli with slot := some { seq := q, status := .ok, payload := .bytes [] } } ∧
         t.modeOf l = .calib ∧ (t.link l).calib = .awaitBusy ∧ (t.link l).calibTimer = some 0 ∧
         (t.link l).firstDone = (s.link l).firstDone ∧
         (∀ k, k ≠ l → t.cmdOf k = s.cmdOf k ∧ t.link k = s.link k) ∧ t.pc = s.pc ∧ t.atp = s.atp ∧ t.pls = s.pls ∧
         t.fhq = s.fhq ∧ t.ztb = s.ztb ∧ t.tdu = s.tdu ∧ t.ssq.odometer = s.ssq.odometer)) ∧
  (∀ (s : State) (l : Leg), s.pc.body = .rest →
     ((s.link l).calib = .awaitBusy ∨ (s.link l).calib = .awaitDone →
       ∃ t, exec (.calibTimeout l) s = .next t ∧ (t.link l).calib = .idle ∧ (t.link l).calibTimer = none ∧
         (t.link l).firstDone = (s.link l).firstDone ∧ t.modeOf l = .limp ∧
         t.hli = (s.postNote (.fault .calibFail (some l) none)).hli ∧
         (∀ k, k ≠ l → t.cmdOf k = s.cmdOf k ∧ t.link k = s.link k) ∧ t.pc = s.pc ∧ t.atp = s.atp ∧ t.pls = s.pls ∧
         t.fhq = s.fhq ∧ t.ztb = s.ztb ∧ t.tdu = s.tdu) ∧
     ((s.link l).calib = .settle →
       ∃ t, exec (.calibSettleEnd l) s = .next t ∧ (t.link l).calib = .idle ∧ (t.link l).calibTimer = none ∧
         (t.link l).firstDone = true ∧ t.modeOf l = .limp ∧ t.hli = (s.postNote (.calib l .done)).hli ∧
         (∀ k, k ≠ l → t.cmdOf k = s.cmdOf k ∧ t.link k = s.link k) ∧ t.pc = s.pc ∧ t.atp = s.atp ∧ t.pls = s.pls ∧
         t.fhq = s.fhq ∧ t.ztb = s.ztb ∧ t.tdu = s.tdu)) ∧
  (∀ (s : State) (l : Leg) (record : List Byte) (r : Report), (s.link l).awaiting = true →
     judgeReport record = .good r → (s.link l).link ≠ .lost →
     ∃ t, exec (.legReportArrival l record) s = .next t ∧
       ((s.link l).calib = .awaitBusy → r.calibBusy = true →
         (t.link l).calib = .awaitDone ∧ (t.link l).calibTimer = (s.link l).calibTimer) ∧
       ((s.link l).calib = .awaitDone → r.calibDone = true → r.calibBusy = false →
         (t.link l).calib = .settle ∧ (t.link l).calibTimer = some 0) ∧
       ((s.link l).calib = .idle ∨ (s.link l).calib = .settle ∨ (s.link l).calib = .awaitBusy ∧ r.calibBusy = false ∨
           (s.link l).calib = .awaitDone ∧ (r.calibDone = false ∨ r.calibBusy = true) →
         (t.link l).calib = (s.link l).calib ∧ (t.link l).calibTimer = (s.link l).calibTimer))

/-- R173, R36: the tests of a WITHDRAW in their order, as a chain; none when every test passes. -/
def withdrawRefusal (s : State) (operand : Byte) : Option Status :=
  if s.pc.protect = true then some .latched
  else
    match Leg.ofIndex? operand.toNat with
    | none => some .range
    | some l =>
      if (s.link l).withdrawn = true then some .absent
      else if s.pc.body = .hold ∨ s.pc.body = .unsettled then some .state
      else if s.pc.body ≠ .rest ∧ s.pc.body ≠ .stand then some .busy
      else if s.pls.reseat = true then some .busy
      else if (s.link l).calib ≠ .idle then some .busy
      else if s.pc.body = .stand ∧ (s.predictedMargin l).value < s.zone.threshold then some .margin
      else none

/-- R173: a refused WITHDRAW changes nothing but the answer and, in STAND, the record of the predicted margin asked;
an accepted one makes the leg LIMP, unverified and withdrawn, empties its queue and its window, and takes its entries
from the pending list.
That a WITHDRAW refused with MARGIN leaves the record of the margin it asked is the model's choice (log entry 41);
so is STATE in HOLD and UNSETTLED while a reseat runs, where R85 says BUSY (log entry 51). -/
def Obligations.WithdrawTakesTheLegOut : Prop :=
  ∀ (s : State) (q operand : Byte), Ready s →
    (∀ st, withdrawRefusal s operand = some st → st ≠ .margin →
      exec (.withdraw q operand) s = .next (s.answered q st (.bytes []))) ∧
    (∀ l, withdrawRefusal s operand = some .margin → Leg.ofIndex? operand.toNat = some l →
      exec (.withdraw q operand) s = .next (State.answered
        { s with scu.predicted := s.predictedMargin l, scu.predictedLeg := some l } q .margin (.bytes []))) ∧
    (∀ l, withdrawRefusal s operand = none → Leg.ofIndex? operand.toNat = some l →
      ∃ t, exec (.withdraw q operand) s = .next t ∧
        t.hli.slot = some { seq := q, status := .ok, payload := .bytes [] } ∧
        (t.link l).withdrawn = true ∧ t.modeOf l = .limp ∧ t.verifiedOf l = false ∧ t.inStance l = false ∧
        t.queueOf l = { entries := [], consumed := none, discarded := none } ∧ (t.slipOf l).fill = 0 ∧
        (t.slipOf l).slip = false ∧ (t.link l).overload = false ∧ (∀ e, e ∈ t.rxu.pending → e.leg ≠ l) ∧
        (t.link l).firstDone = (s.link l).firstDone ∧ (t.slipOf l).start = (s.slipOf l).start ∧
        (t.slipOf l).length = (s.slipOf l).length ∧
        (s.pc.body = .rest → t.hli.notes = (s.postNote (.leg l .withdrawn (s.link l).missTotal)).hli.notes ∧
          t.pc = s.pc ∧ ∀ k, k ≠ l → t.cmdOf k = s.cmdOf k ∧ t.link k = s.link k) ∧
        (∀ k, k ≠ l → (t.link k).withdrawn = (s.link k).withdrawn) ∧ t.atp = s.atp ∧ t.ztb = s.ztb ∧ t.tdu = s.tdu)

/-- R175: an ADMIT is judged in its order: PROTECTED, RANGE of the leg, the body state, BUSY where a reseat procedure runs
in REST or STAND. One of an admitted leg then changes nothing; in REST it clears the mark, with a LEG note; in STAND, with
the link OK, the leg gets its rise target and a reseat begins.
That a reseat procedure in HOLD or UNSETTLED does not come before the body state is the model's choice (log entry 51). -/
def Obligations.AdmitTakesTheLegBack : Prop :=
  (∀ (s : State) (q operand : Byte), Ready s →
     (s.pc.protect = true → exec (.admitLeg q operand) s = .next (s.answered q .latched (.bytes []))) ∧
     (s.pc.protect = false → 3 < operand.toNat →
       exec (.admitLeg q operand) s = .next (s.answered q .range (.bytes [])))) ∧
  (∀ (s : State) (q : Byte) (l : Leg), Ready s → s.pc.protect = false →
     let told := exec (.admitLeg q (BitVec.ofNat 8 l.index)) s
     (s.pc.body = .hold ∨ s.pc.body = .unsettled → told = .next (s.answered q .state (.bytes []))) ∧
     (s.pc.body = .walk ∨ s.pc.body = .recover ∨ s.pc.body = .rising ∨ s.pc.body = .lowering →
       told = .next (s.answered q .busy (.bytes []))) ∧
     (s.pc.body = .rest ∨ s.pc.body = .stand → s.pls.reseat = true → told = .next (s.answered q .busy (.bytes []))) ∧
     (s.pls.reseat = false →
       (s.pc.body = .rest ∨ s.pc.body = .stand → (s.link l).withdrawn = false →
         told = .next (s.answered q .ok (.bytes []))) ∧
       (s.pc.body = .stand → (s.link l).withdrawn = true → (s.link l).link ≠ .ok →
         told = .next (s.answered q .state (.bytes []))) ∧
       ((s.link l).withdrawn = true → s.modeOf l = .limp → s.verifiedOf l = false → StanceSetCurrent s →
         (s.pc.body = .rest → told =
           .next (State.answered (State.postNote
             { s with llc := s.llc.set l { s.link l with withdrawn := false } }
             (.leg l .admitted (s.link l).missTotal)) q .ok (.bytes []))) ∧
         (s.pc.body = .stand → (s.link l).link = .ok →
           ∃ t, told = .next t ∧ (t.link l).withdrawn = false ∧ t.modeOf l = .limp ∧
             (t.cmdOf l).target = clampPoint (s.riseTarget l) ∧ t.pls.reseat = true ∧ t.pls.origin = .stand ∧
             l ∈ t.pls.reseatSet ∧ t.ssq.phase = .shift ∧ t.pc = s.pc ∧
             (∀ k, k ≠ l → t.cmdOf k = s.cmdOf k ∧ t.link k = s.link k) ∧ t.scu = s.scu ∧
             t.hli = { (s.postNote (.leg l .admitted (s.link l).missTotal)).hli with
                       slot := some { seq := q, status := .ok, payload := .bytes [] } } ∧
             t.atp = s.atp ∧ t.fhq = s.fhq ∧ t.ztb = s.ztb ∧ t.tdu = s.tdu ∧ t.rxu = s.rxu))))

/-! ## Footholds -/

/-- An entry whose fields a foothold entry's bytes can spell. -/
def spelled (e : Foothold) : Prop :=
  e.tag < 256 ∧ e.inUse = false ∧ e.alternates.length ≤ 3 ∧ -32768 ≤ e.dx ∧ e.dx < 32768 ∧ -32768 ≤ e.dy ∧
    e.dy < 32768 ∧ -32768 ≤ e.dz ∧ e.dz < 32768 ∧ (∀ c, e.contact = some c → 0 ≤ c ∧ c < 65536) ∧
    ∀ a ∈ e.alternates, -32768 ≤ a.x ∧ a.x < 32768 ∧ -32768 ≤ a.y ∧ a.y < 32768

/-- R95, R96, R94: a PLAN of one to eight entries is judged in its order and appends them all, clamped, or none.
The override field of an entry without an override, and the empty payload of a refusal, are the model's choices (log
entries 6 and 62). -/
def Obligations.PlanAppendsAllOrNone : Prop :=
  ∀ (s : State) (q operand : Byte) (sent : List Foothold) (more : List Byte), Ready s → (∀ e ∈ sent, spelled e) →
    1 ≤ sent.length → sent.length ≤ 8 →
    let told := exec (.plan q operand (BitVec.ofNat 8 sent.length) ((sent.map entryBytes).flatten ++ more)) s
    let refused := fun st => told = .next (s.answered q st (.bytes []))
    (s.pc.protect = true → refused .latched) ∧
    (s.pc.protect = false → 3 < operand.toNat → refused .range) ∧
    (∀ l : Leg, s.pc.protect = false → operand.toNat = l.index →
      let queue := (s.queueOf l).entries
      ((s.link l).withdrawn = true → refused .absent) ∧
      ((s.link l).withdrawn = false → 8 < queue.length + sent.length → refused .full) ∧
      ((s.link l).withdrawn = false → queue.length + sent.length ≤ 8 →
        let fresh := (sent.map Foothold.tag).Nodup ∧ ∀ e ∈ sent, ∀ f ∈ queue, e.tag ≠ f.tag
        (¬ fresh → refused .duplicate) ∧
        (fresh → told = .next (State.answered
          { s with fhq := s.fhq.set l { s.queueOf l with entries := queue ++ sent.map Foothold.clamped } } q
          (if sent.map Foothold.clamped = sent then .ok else .clamped)
          (.bytes [BitVec.ofNat 8 (queue.length + sent.length)])))))

/-- R97, R98, R99: UNPLAN, UNPLAN of ALL and SWAP are refused PROTECTED, RANGE of the leg and ABSENT of a withdrawn leg, in
that order; then a SWAP of an entry with more than three alternates, RANGE. An UNPLAN of one tag removes that entry unless it is in use; an UNPLAN of ALL removes every entry but the
one in use, and says how many. A SWAP replaces a head that is not in use, or begins an empty queue.
The override field of a returned entry without an override, and the empty payload of a refusal, are the model's choices
(log entries 6 and 62). -/
def Obligations.UnplanAndSwapSpareTheEntryInUse : Prop :=
  (∀ (s : State) (q operand tag : Byte) (more : List Byte), Ready s →
     let refused := fun st => ∀ c ∈ [Instr.unplan q operand tag, .unplanAll q operand, .swap q operand more],
       exec c s = .next (s.answered q st (.bytes []))
     (s.pc.protect = true → refused .latched) ∧
     (s.pc.protect = false → 3 < operand.toNat → refused .range) ∧
     (∀ l : Leg, s.pc.protect = false → operand.toNat = l.index →
       ((s.link l).withdrawn = true → refused .absent) ∧
       (∀ count : Byte, (s.link l).withdrawn = false → 3 < count.toNat →
         exec (.swap q operand (tag :: count :: more)) s = .next (s.answered q .range (.bytes []))))) ∧
  (∀ (s : State) (q tag : Byte) (l : Leg), Ready s → s.pc.protect = false → (s.link l).withdrawn = false →
     QueueSound (s.queueOf l) →
     let queue := (s.queueOf l).entries
     let operand := BitVec.ofNat 8 l.index
     ((∀ e ∈ queue, e.tag ≠ tag.toNat) →
       exec (.unplan q operand tag) s = .next (s.answered q .absent (.bytes []))) ∧
     (∀ e ∈ queue, e.tag = tag.toNat → e.inUse = true →
       exec (.unplan q operand tag) s = .next (s.answered q .busy (.bytes []))) ∧
     (∀ e ∈ queue, e.tag = tag.toNat → e.inUse = false →
       exec (.unplan q operand tag) s = .next (State.answered
         { s with fhq := s.fhq.set l { s.queueOf l with entries := queue.erase e } } q .ok (.bytes [1]))) ∧
     (∃ kept, exec (.unplanAll q operand) s = .next (State.answered
         { s with fhq := s.fhq.set l { s.queueOf l with entries := kept } } q .ok
           (.bytes [BitVec.ofNat 8 (queue.length - kept.length)])) ∧
       (∀ e, e ∈ kept ↔ e ∈ queue ∧ e.inUse = true) ∧ kept.length ≤ 1)) ∧
  (∀ (s : State) (q : Byte) (l : Leg) (e : Foothold) (more : List Byte), Ready s → s.pc.protect = false →
     (s.link l).withdrawn = false → spelled e →
     let told := exec (.swap q (BitVec.ofNat 8 l.index) (entryBytes e ++ more)) s
     let status := if e.clamped = e then Status.ok else .clamped
     ((s.queueOf l).entries = [] → told = .next (State.answered
       { s with fhq := s.fhq.set l { s.queueOf l with entries := [e.clamped] } } q status (.bytes [0]))) ∧
     (∀ head rest, (s.queueOf l).entries = head :: rest →
       (head.inUse = true → told = .next (s.answered q .busy (.bytes []))) ∧
       (head.inUse = false → (∃ f ∈ rest, f.tag = e.tag) → told = .next (s.answered q .duplicate (.bytes []))) ∧
       (head.inUse = false → (∀ f ∈ rest, f.tag ≠ e.tag) → told = .next (State.answered
         { s with fhq := s.fhq.set l { s.queueOf l with entries := e.clamped :: rest } } q status
         (.bytes (1 :: entryBytes head))))))

/-! ## Slip -/

/-- R128, R125: the steady timer sets the mark; a deviation recorded for a leg with a window takes the next slot there,
and is the newest of its records. R131: the SLIP condition: the newest deviation above the threshold and, with a
window, at least half the records, rounded up, above it. -/
def Obligations.DeviationsAreRecordedAndJudged : Prop :=
  (∀ (s : State) (l : Leg),
     exec (.steadyTimeout l) s =
       .next { s with slm.legs := s.slm.legs.modify l fun k => { k with steady := true, steadyTimer := none } } ∧
     (∀ d : Nat, (s.slipOf l).length ≠ 0 → s.slm.store.length = 64 → WindowSound (s.slipOf l) →
       let k := s.slipOf l
       let t := s.recordDeviation l d
       t.slm.store[k.next]? = some d ∧ (∀ i, i ≠ k.next → t.slm.store[i]? = s.slm.store[i]?) ∧
         (t.slipOf l).newest = some d ∧ (t.slipOf l).fill = min k.length (k.fill + 1) ∧
         (t.slipOf l).next = (if k.next + 1 = k.start + k.length then k.start else k.next + 1) ∧
         (t.records l).head? = some d ∧ (t.records l).tail = (s.records l).take (k.length - 1) ∧
         (∀ j, j ≠ l → t.slipOf j = s.slipOf j)) ∧
     (∀ d : Nat, (s.slipOf l).length = 0 → s.recordDeviation l d =
       { s with slm.legs := s.slm.legs.set l { s.slipOf l with newest := some d } })) ∧
  (∀ (s : State) (l : Leg) (d threshold : Nat),
     s.slipTest l d threshold = true ↔ threshold < d ∧ ((s.slipOf l).length = 0 ∨
       (s.slipOf l).fill ≤ 2 * ((s.records l).filter fun x => decide (threshold < x)).length))

/-! ## Reflexes -/

/-- R158, R17, R18: a reflex that finds four contexts on the stack is not taken: OVERFLOW with its trigger and leg, PROTECT,
the latch, and every leg that stood, swung or was being placed held. It is not listed, and the dropped-cause count goes up;
the stack, the running reflex and RE1 are as they were. A SLIP condition that ends as its leg leaves the stance set leaves
the list (R133, R139). That the held legs leave one by one, each with a TIP test of its own that may post HELD notes and
count more, is the model's choice (log entry 12). -/
def overflown (s t : State) (trigger : Trigger) (leg : Option Leg) : Prop :=
  let noted := (s.postNote (.fault .overflow leg (some trigger))).postNote (.fault .protect none none)
  t.pc = { s.pc with protect := true } ∧
    t.rxu = { s.rxu with dropped := t.rxu.dropped, pending := t.rxu.pending } ∧
    min 255 (s.rxu.dropped + 1) ≤ t.rxu.dropped ∧ t.rxu.pending.Sublist s.rxu.pending ∧
    (∀ e ∈ s.rxu.pending, e.cause ≠ .slip → e ∈ t.rxu.pending) ∧ noted.hli.notes <+: t.hli.notes ∧
    (StanceSetCurrent s → (∀ k, s.inStance k = false) →
      t.rxu = { s.rxu with dropped := min 255 (s.rxu.dropped + 1) } ∧ t.hli = noted.hli ∧ t.scu = s.scu) ∧
    t.ssq = { s.ssq with cmd := t.ssq.cmd } ∧
    (∀ k, s.modeOf k = .stance ∨ s.modeOf k = .swing ∨ s.modeOf k = .placing → t.cmdOf k =
      { mode := .hold, target := clampPoint (s.cmdOf k).target, clearance := (s.cmdOf k).clearance }) ∧
    (∀ k, s.modeOf k = .limp ∨ s.modeOf k = .hold ∨ s.modeOf k = .calib → t.cmdOf k = s.cmdOf k) ∧
    t.pls = s.pls ∧ t.fhq = s.fhq ∧ t.ztb = s.ztb ∧ t.tdu = s.tdu ∧ t.atp = s.atp

/-- R137: what becomes of a maskable cause that is not taken at once: dropped with its count, or listed once. R141, R142,
R143, R144, R86, R91: one taken at once in STAND with REGROUP selected and a leg to reseat: the context pushed, RE1 0,
RECOVER with its notes, and a pass over the legs that fail. R149: one taken there with BRACE from the table: every
STANCE leg raised by the parameter, but not past the crouch height, and the WAIT begun. R158: a cause that would be taken
at once, or a TIP, with four contexts on the stack. -/
def Obligations.CausesAreDroppedListedOrTaken : Prop :=
  (∀ (s : State) (c : Cause) (l : Leg),
     let dropped := s.raiseCause c l
     (s.pc.body.standing = false ∨ (s.link l).withdrawn = true →
       dropped.rxu = { s.rxu with dropped := min 255 (s.rxu.dropped + 1) } ∧ dropped.hli = s.hli ∧
         dropped.pc = s.pc ∧ dropped.ssq = s.ssq ∧
         (c = .slip → (dropped.slipOf l).slip = false) ∧ (c = .overload → (dropped.link l).overload = false)) ∧
     (s.pc.body.standing = true → (s.link l).withdrawn = false →
       s.pc.protect = true ∨ s.rxu.crouch ≠ .clear ∨ s.rxu.re1 = false →
       s.raiseCause c l = { s with rxu.pending :=
         if ⟨c, l⟩ ∈ s.rxu.pending then s.rxu.pending else s.rxu.pending ++ [⟨c, l⟩] })) ∧
  (∀ (s : State) (c : Cause) (l : Leg), s.pc.body = .stand → (s.link l).withdrawn = false → s.pc.protect = false →
     s.rxu.crouch = .clear → s.rxu.re1 = true → s.pls.reseat = false → s.rxu.running = none → s.rxu.stack = [] →
     s.zone.select = .fixed → s.reseatFailing ≠ [] → Steady s →
     let t := s.raiseCause c l
     t.pc = { s.pc with body := .recover } ∧ t.rxu.re1 = false ∧ t.rxu.re2 = s.rxu.re2 ∧ t.rxu.stack = [.stand] ∧
       t.rxu.pending = s.rxu.pending ∧
       (∃ r, t.rxu.running = some r ∧ r.kind = .regroup ∧ r.trigger = .cause c ∧ r.leg = some l ∧ r.stage = .pass) ∧
       t.pls.reseatSet = s.reseatFailing ∧ t.pls.reseatLeg = s.reseatFailing.head? ∧ t.ssq.phase = .shift ∧
       t.ssq.stepping = s.reseatFailing.head? ∧ t.ssq.cmd = s.ssq.cmd ∧
       t.hli = ((s.postNote (.reflex .taken (.cause c) (some l) (some .regroup) 1)).postNote
         (.body .stand .recover .reflex)).hli ∧
       t.atp = s.atp ∧ t.ztb = s.ztb ∧ t.tdu = s.tdu ∧ t.llc = s.llc ∧ t.slm = s.slm) ∧
  (∀ (s : State) (c : Cause) (l : Leg) (param : Int), s.pc.body = .stand → (s.link l).withdrawn = false →
     s.pc.protect = false → s.rxu.crouch = .clear → s.rxu.re1 = true → s.pls.reseat = false → s.rxu.running = none →
     s.rxu.stack = [] → s.zone.select = .table → (s.rxu.table.get c).get l = ⟨.brace, param⟩ → Steady s →
     let t := s.raiseCause c l
     let top := s.pc.geom.crouch
     (∀ k, s.modeOf k = .stance → t.modeOf k = .stance ∧ (t.cmdOf k).clearance = (s.cmdOf k).clearance ∧
       let at' := (s.cmdOf k).target
       (top < at'.z → (t.cmdOf k).target = clampPoint at') ∧
       (at'.z ≤ top → (t.cmdOf k).target =
         clampPoint ⟨at'.x, at'.y, if top < at'.z + param then top else at'.z + param⟩)) ∧
     (∀ k, s.modeOf k ≠ .stance → t.cmdOf k = s.cmdOf k) ∧ t.ssq.verified = s.ssq.verified ∧
     t.scu.stance = s.scu.stance ∧ t.pc = { s.pc with body := .recover } ∧ t.rxu.re1 = false ∧ t.rxu.re2 = s.rxu.re2 ∧
     t.rxu.stack = [.stand] ∧ t.rxu.pending = s.rxu.pending ∧ t.rxu.stageTimer = some 0 ∧
     (∃ r, t.rxu.running = some r ∧ r.kind = .brace ∧ r.trigger = .cause c ∧ r.leg = some l ∧ r.param = param ∧
       r.stage = .wait) ∧
     t.hli = ((s.postNote (.reflex .taken (.cause c) (some l) (some .brace) 1)).postNote
       (.body .stand .recover .reflex)).hli ∧
     t.scu.sway = s.scu.sway ∧ t.atp = s.atp ∧ t.ztb = s.ztb ∧ t.tdu = s.tdu) ∧
  (∀ s : State, s.pc.protect = false → s.rxu.crouch = .clear → 4 ≤ s.rxu.stack.length →
     overflown s s.raiseTip .tip none ∧
     ∀ (c : Cause) (l : Leg), s.pc.body.standing = true → (s.link l).withdrawn = false → s.rxu.re1 = true →
       overflown s (s.raiseCause c l) (.cause c) (some l))

/-- R140: REFLEXES OFF at once; ON at once outside WALK and RECOVER, where the mark waits. R141: the rise of RE1 in STAND,
HOLD or UNSETTLED takes the oldest pending entry, as a cause raised at once is taken; with BRACE selected from the table
in STAND, for one, that reflex runs and RE1 is 0 again. Elsewhere, or with the crouch mark not clear, the entries wait. -/
def Obligations.ReflexesAreSwitched : Prop :=
  ∀ (s : State) (q : Byte), Ready s →
    (s.pc.protect = true → exec (.reflexesOn q) s = .next (s.answered q .latched (.bytes [])) ∧
      exec (.reflexesOff q) s = .next (s.answered q .latched (.bytes []))) ∧
    (s.pc.protect = false →
      exec (.reflexesOff q) s = .next (State.answered
        { s with rxu.re1 := false, rxu.re2 := false, rxu.waiting := false } q .ok (.bytes [])) ∧
      (s.rxu.re1 = true → exec (.reflexesOn q) s =
        .next (State.answered { s with rxu.re2 := true } q .ok (.bytes []))) ∧
      (s.rxu.re1 = false → s.pc.body = .walk ∨ s.pc.body = .recover → exec (.reflexesOn q) s =
        .next (State.answered { s with rxu.re2 := true, rxu.waiting := true } q .ok (.bytes []))) ∧
      (s.rxu.re1 = false → s.pc.body ≠ .walk → s.pc.body ≠ .recover →
        s.rxu.pending = [] ∨ s.pc.body.standing = false ∨ s.rxu.crouch ≠ .clear →
        exec (.reflexesOn q) s = .next (State.answered
          { s with rxu.re1 := true, rxu.re2 := true, rxu.waiting := false } q .ok (.bytes []))) ∧
      (∀ c l rest, s.rxu.re1 = false → s.pc.body = .stand ∨ s.pc.body = .hold ∨ s.pc.body = .unsettled →
        s.rxu.crouch = .clear → s.rxu.pending = ⟨c, l⟩ :: rest → (s.link l).withdrawn = false →
        let risen := { s with rxu.re1 := true, rxu.re2 := true, rxu.waiting := false, rxu.pending := rest }
        exec (.reflexesOn q) s = .next ((risen.raiseCause c l).answered q .ok (.bytes [])) ∧
        (∀ param : Int, s.pc.body = .stand → s.pls.reseat = false → s.rxu.running = none → s.rxu.stack = [] →
          s.zone.select = .table → (s.rxu.table.get c).get l = ⟨.brace, param⟩ → Steady s →
          ∃ t, exec (.reflexesOn q) s = .next t ∧ t.pc = { s.pc with body := .recover } ∧ t.rxu.re1 = false ∧
            t.rxu.re2 = true ∧ t.rxu.waiting = false ∧ t.rxu.stack = [.stand] ∧ t.rxu.pending = rest ∧
            (∃ r, t.rxu.running = some r ∧ r.kind = .brace ∧ r.trigger = .cause c ∧ r.leg = some l ∧ r.stage = .wait) ∧
            t.hli = { ((s.postNote (.reflex .taken (.cause c) (some l) (some .brace) 1)).postNote
                        (.body .stand .recover .reflex)).hli with
                      slot := some { seq := q, status := .ok, payload := .bytes [] } })))

/-- R70, R53, R63: what a WALK context resumed as HOLD leaves: the body state, the next-step record, the stride count.
The context's leg at its index; after a PAUSE the first leg of the latched order; after a PROPEL the step after it, or
STAND where that was the last. -/
def walkHeld (s : State) (leg : Leg) (index count : Nat) (phase : Phase) : BodyState × Option NextStep × Nat :=
  if phase = .pause then (.hold, some ⟨s.ssq.order.first, 1⟩, count)
  else if phase ≠ .propel then (.hold, some ⟨leg, index⟩, count)
  else if index ≠ 4 then (.hold, some ⟨s.ssq.order.nth (index + 1), index + 1⟩, count)
  else if 2 ≤ count then (.hold, some ⟨s.ssq.order.first, 1⟩, count - 1)
  else (.stand, none, 0)

/-- R63, R70: the STRIDE note of a context whose fourth step ends, as R62 ends it. -/
def strideTold (s : State) (index count : Nat) (phase : Phase) : State :=
  if phase = .propel ∧ index = 4 then s.postNote (.stride (count - 1) s.ssq.odometer) else s

/-- R157: what every accepted RESUME leaves, the notes of the restored activity coming before its own. -/
def resumed (s noted t : State) (q : Byte) (body : BodyState) : Prop :=
  t.pc = { s.pc with body := body } ∧ t.rxu.stack = [] ∧ t.rxu.running = none ∧ t.rxu.crouch = .clear ∧
    t.rxu.re1 = s.rxu.re2 ∧ t.rxu.waiting = false ∧
    t.rxu.pending = s.rxu.pending.filter (fun e => e.cause.level) ∧ t.ssq.cmd = s.ssq.cmd ∧
    t.hli = { ((noted.postNote (.body .recover body .resume)).postNote (.reflex .resumed .tip none none 0)).hli with
              slot := some { seq := q, status := .ok, payload := .bytes [] } } ∧
    t.ssq.verified = s.ssq.verified ∧ t.ssq.odometer = s.ssq.odometer ∧ t.scu.sway = s.scu.sway ∧
    t.atp = s.atp ∧ t.fhq = s.fhq ∧ t.ztb = s.ztb ∧ t.tdu = s.tdu ∧ t.llc = s.llc

/-- R157: a RESUME of a crouched body, which keeps its crouched targets; the bottom context gives the body state. R70: a
WALK context is resumed as HOLD, or STAND, with its next-step record; a RESEAT context as the state its origin gives.
That the TIP test comes once the context is in place, and that no stepping leg is left, are the model's choices (log
entries 9 and 13); so is the step index 1 after a fourth step (log entry 50). -/
def Obligations.ResumeRestoresTheBottomContext : Prop :=
  ∀ (s : State) (q : Byte), Ready s →
    (s.pc.protect = true → exec (.resume q) s = .next (s.answered q .latched (.bytes []))) ∧
    (s.pc.protect = false → s.pc.body = .rising ∨ s.pc.body = .lowering →
      exec (.resume q) s = .next (s.answered q .busy (.bytes []))) ∧
    (s.pc.protect = false → s.pc.body ≠ .rising → s.pc.body ≠ .lowering → s.rxu.crouch ≠ .crouched →
      exec (.resume q) s = .next (s.answered q .state (.bytes []))) ∧
    (s.pc.protect = false → s.pc.body = .recover → s.rxu.crouch = .crouched → s.tipHolds = false →
      (s.rxu.re2 = true → ∀ e ∈ s.rxu.pending, e.cause.level = false) →
      (∀ (bottom : Context) (body : BodyState), s.rxu.stack.getLast? = some bottom →
        (bottom = .stand ∧ body = .stand) ∨ (bottom = .unsettled ∧ body = .unsettled) ∨
          (∃ n k d, bottom = .hold n k d ∧ body = .hold) →
        ∃ t, exec (.resume q) s = .next t ∧ resumed s s t q body ∧
          (∀ n k d, bottom = .hold n k d → t.ssq.next = n ∧ t.ssq.count = k ∧ t.ssq.dir = d)) ∧
      (∀ leg l index phase count dir attempts,
        s.rxu.stack.getLast? = some (.walk leg index phase count dir attempts) → leg = some l ∨ phase = .pause →
        ∃ t, exec (.resume q) s = .next t ∧
          (let held := walkHeld s l index count phase
           resumed s (strideTold s index count phase) t q held.1 ∧ t.ssq.next = held.2.1 ∧ t.ssq.count = held.2.2 ∧
             t.ssq.dir = dir ∧ t.ssq.order = s.ssq.order ∧ t.ssq.phase = .idle ∧ t.ssq.stepping = none ∧
             t.ssq.phaseTimer = none)) ∧
      (∀ origin pass count dir next attempts,
        s.rxu.stack.getLast? = some (.reseat origin pass count dir next attempts) →
        ∃ t, exec (.resume q) s = .next t ∧ t.pls = s.pls ∧
          (origin = .unsettled → resumed s s t q .unsettled) ∧
          (origin ≠ .unsettled →
            resumed s (if 0 < count then s.postNote (.stride count s.ssq.odometer) else s) t q .stand ∧
              t.ssq.count = 0 ∧ t.ssq.next = none)))

/-- R151, R152: a reflex over one context has ended, in DONE or FAILED, with what it resumes in place. -/
def ended (s noted t : State) (body : BodyState) (reason : BodyReason) : Prop :=
  t.pc = { s.pc with body := body } ∧ t.rxu.stack = [] ∧ t.rxu.running = none ∧ t.rxu.re1 = s.rxu.re2 ∧
    t.rxu.stageTimer = none ∧ t.rxu.liftTimer = none ∧ t.rxu.pending = [] ∧ t.ssq.cmd = s.ssq.cmd ∧
    t.ssq.verified = s.ssq.verified ∧ t.ssq.odometer = s.ssq.odometer ∧
    t.hli = (noted.postNote (.body .recover body reason)).hli ∧ t.scu.sway = s.scu.sway ∧ t.atp = s.atp ∧
    t.fhq = s.fhq ∧ t.ztb = s.ztb ∧ t.tdu = s.tdu ∧ t.llc = s.llc

/-- R149, R151: the stage timer ends a BRACE's WAIT; a reflex that interrupted STAND ends in STAND, with RE1 set to RE2.
R151, R70, R90: one that interrupted a walk goes on with a fresh SHIFT, its PROPEL or a fresh PAUSE; one that interrupted
a reseat goes on with the check of the next pass, which fails the procedure after the fourth. R152: the stall timer of a
leg reseat fails its reflex: the STALL note, FAILED, RE1 set to RE2, and the table of R151 but for a walk, which holds.
R156, R17, R18: a CROUCH that times out is CROUCHED; with fewer than three crouching legs in contact the protect latch
is set and every leg that stood, swung or was being placed is held. R147, R74: the swing timer of a RETRACT's LIFT;
where reflexes are not live OBSTRUCT waits on the list, and PLACE begins at the retract target.
That the held legs leave one by one, and the swing timer of the LIFT beside the stage timer, are the model's choices (log
entries 12 and 16); so are the BODY note of a resumed procedure before its RESEAT_FAIL, its reseat set and pass number then,
and the empty reseat set of a reflex that has ended (log entries 59, 52, 46 and 63). -/
def Obligations.ReflexStagesThatTimeOut : Prop :=
  (∀ (s : State) (r : Running), s.rxu.running = some r → r.stage = .wait → s.pc.protect = false →
     s.rxu.stack = [.stand] → s.pc.body = .recover → s.rxu.pending = [] → s.tipHolds = false →
     ∃ t, exec .braceTimeout s = .next t ∧ t.pc = { s.pc with body := .stand } ∧ t.rxu.stack = [] ∧
       t.rxu.running = none ∧ t.rxu.re1 = s.rxu.re2 ∧ t.rxu.stageTimer = none ∧ t.rxu.pending = [] ∧
       t.ssq.cmd = s.ssq.cmd ∧ t.ssq.phase = .idle ∧
       t.hli = ((s.postNote (.reflex .done r.trigger r.leg (some r.kind) 0)).postNote
         (.body .recover .stand .done)).hli ∧
       t.atp = s.atp ∧ t.fhq = s.fhq ∧ t.ztb = s.ztb ∧ t.tdu = s.tdu ∧ t.llc = s.llc ∧ t.scu.sway = s.scu.sway) ∧
  (∀ (s : State) (r : Running), s.rxu.running = some r → r.stage = .wait → s.pc.protect = false →
     s.pc.body = .recover → s.rxu.pending = [] → s.tipHolds = false →
     let noted := s.postNote (.reflex .done r.trigger r.leg (some r.kind) 0)
     (∀ l index phase count dir attempts, s.rxu.stack = [.walk (some l) index phase count dir attempts] →
       ∃ t, exec .braceTimeout s = .next t ∧ ended s noted t .walk .done ∧ t.ssq.count = count ∧
         t.ssq.dir = dir ∧ t.pls = { s.pls with reseatSet := [], reseatLeg := none } ∧
         (phase = .shift ∨ phase = .swing ∨ phase = .place → t.ssq.phase = .shift ∧ t.ssq.stepping = some l ∧
           t.ssq.index = index ∧ t.ssq.phaseTimer = some 0 ∧ t.ssq.latched.stride = s.zone.stride ∧
           t.ssq.latched.threshold = s.zone.threshold ∧ t.ssq.latched.derate = s.tdu.body ∧
           (index ≠ 1 → t.ssq.order = s.ssq.order) ∧ (index = 1 → t.ssq.order = s.zone.order.walked dir)) ∧
         (phase = .propel → t.ssq.phase = .propel ∧ t.ssq.stepping = some l ∧ t.ssq.index = index ∧
           t.ssq.phaseTimer = some 0 ∧ t.ssq.quarter = s.ssq.quarter ∧ t.ssq.latched = s.ssq.latched)) ∧
     (∀ index count dir attempts, s.rxu.stack = [.walk none index .pause count dir attempts] →
       ∃ t, exec .braceTimeout s = .next t ∧ ended s noted t .walk .done ∧ t.ssq.count = count ∧
         t.ssq.dir = dir ∧ t.ssq.phase = .pause ∧ t.ssq.stepping = none ∧ t.ssq.phaseTimer = some 0) ∧
     (∀ origin pass count dir next attempts first rest, s.reseatFailing = first :: rest →
       s.rxu.stack = [.reseat origin pass count dir next attempts] →
       (pass < 4 → ∃ t, exec .braceTimeout s = .next t ∧ ended s noted t origin.body .done ∧
         t.pls.reseat = true ∧ t.pls.origin = origin ∧ t.pls.pass = pass + 1 ∧ t.pls.reseatSet = first :: rest ∧
         t.pls.reseatLeg = some first ∧ t.ssq.phase = .shift ∧ t.ssq.stepping = some first ∧
         t.ssq.phaseTimer = some 0 ∧ t.ssq.count = count ∧ t.ssq.dir = dir ∧ t.ssq.next = next) ∧
       (pass = 4 → ∃ t, exec .braceTimeout s = .next t ∧ t.pls.reseat = false ∧ t.pls.reseatSet = [] ∧
         t.pls.reseatLeg = none ∧ t.pls.pass = 4 ∧ t.ssq.phase = .idle ∧ t.ssq.stepping = none ∧ t.ssq.dir = dir ∧
         t.rxu.stack = [] ∧ t.rxu.running = none ∧ t.rxu.re1 = s.rxu.re2 ∧ t.ssq.cmd = s.ssq.cmd ∧
         (let failed := (noted.postNote (.body .recover origin.body .done)).postNote (.fault .reseatFail none none)
          (origin = .stand → t.pc.body = .hold ∧ t.ssq.count = 0 ∧ t.ssq.next = none ∧
            t.hli = (failed.postNote (.body .stand .hold .fault)).hli) ∧
          (origin ≠ .stand → t.pc.body = origin.body ∧ t.ssq.count = count ∧ t.ssq.next = next ∧
            t.hli = failed.hli))))) ∧
  (∀ (s : State) (r : Running) (l : Leg), s.rxu.running = some r → r.stage = .reseat → s.ssq.phase = .shift →
     s.ssq.stepping = some l → s.pc.protect = false → s.pc.body = .recover → s.rxu.pending = [] → s.tipHolds = false →
     let noted := (s.postNote (.fault .stall (some l) none)).postNote
       (.reflex .failed r.trigger r.leg (some r.kind) 0)
     (∀ ctx body, s.rxu.stack = [ctx] →
       (ctx = .stand ∧ body = .stand) ∨ (ctx = .unsettled ∧ body = .unsettled) ∨
         (∃ n k d, ctx = .hold n k d ∧ body = .hold) →
       ∃ t, exec .shiftStall s = .next t ∧ ended s noted t body .done ∧ t.ssq.phase = .idle ∧
         t.ssq.stepping = none ∧ t.pls = { s.pls with reseatSet := [], reseatLeg := none } ∧
         (∀ n k d, ctx = .hold n k d → t.ssq.next = n ∧ t.ssq.count = k ∧ t.ssq.dir = d)) ∧
     (∀ leg k index phase count dir attempts, s.rxu.stack = [.walk leg index phase count dir attempts] →
       leg = some k ∨ phase = .pause →
       ∃ t, exec .shiftStall s = .next t ∧
         (let held := walkHeld s k index count phase
          ended s (strideTold noted index count phase) t held.1 .fault ∧ t.ssq.next = held.2.1 ∧
            t.ssq.count = held.2.2 ∧ t.ssq.dir = dir ∧ t.ssq.order = s.ssq.order ∧ t.ssq.phase = .idle ∧
            t.ssq.stepping = none ∧ t.pls = { s.pls with reseatSet := [], reseatLeg := none }))) ∧
  (∀ s : State, s.rxu.crouch = .running → s.pc.protect = false →
     let loaded := Leg.all.filter fun l => s.rxu.crouching.get l && s.loadedAt s.zone.surface.contact l
     let noted := s.postNote (.reflex .timeout .tip none (some .crouch) s.rxu.stack.length)
     (3 ≤ loaded.length → exec .crouchTimeout s =
       .next { s with rxu.crouch := .crouched, rxu.stageTimer := none, hli := noted.hli }) ∧
     (loaded.length < 3 → ∃ t, exec .crouchTimeout s = .next t ∧ t.rxu.crouch = .crouched ∧
       t.rxu.stageTimer = none ∧ t.pc = { s.pc with protect := true } ∧
       (∀ l, s.modeOf l = .stance ∨ s.modeOf l = .swing ∨ s.modeOf l = .placing →
         t.modeOf l = .hold ∧ (t.cmdOf l).target = clampPoint (s.cmdOf l).target) ∧
       (∀ l, s.modeOf l = .limp ∨ s.modeOf l = .hold ∨ s.modeOf l = .calib → t.cmdOf l = s.cmdOf l) ∧
       t.rxu.stack = s.rxu.stack ∧ t.rxu.running = s.rxu.running ∧ t.rxu.re1 = s.rxu.re1 ∧
       t.atp = s.atp ∧ t.fhq = s.fhq ∧ t.ztb = s.ztb ∧ t.tdu = s.tdu ∧ t.pls = s.pls)) ∧
  (∀ (s : State) (r : Running) (l : Leg), s.rxu.running = some r → r.stage = .lift → r.leg = some l →
     s.pc.protect = false → s.rxu.waiting = false → s.rxu.re1 = false → s.pc.body = .recover →
     (s.link l).withdrawn = false → s.modeOf l = .swing → OneLegInAir s → StanceSetCurrent s →
     ∃ t, exec .retractLiftTimeout s = .next t ∧ t.rxu.running = some { r with stage := .place } ∧
       t.rxu.liftTimer = none ∧ t.pls.placement = some l ∧ t.pls.target = r.retract ∧ t.pls.sub = .lower ∧
       t.pls.attempt = 0 ∧ t.pls.entry = none ∧ t.pls.placeTimer = some 0 ∧ t.modeOf l = .placing ∧
       (t.cmdOf l).target = clampPoint r.retract ∧
       t.rxu.pending = (if ⟨.obstruct, l⟩ ∈ s.rxu.pending then s.rxu.pending
         else s.rxu.pending ++ [⟨.obstruct, l⟩]) ∧
       (∀ k, k ≠ l → t.cmdOf k = s.cmdOf k) ∧ t.rxu.stack = s.rxu.stack ∧ t.pc = s.pc ∧ t.scu = s.scu ∧
       t.hli = s.hli ∧ t.fhq = s.fhq ∧ t.atp = s.atp ∧ t.ztb = s.ztb ∧ t.tdu = s.tdu)

/-! ## Leg links -/

/-- R162, R177: a refresh due and a command to send: the record goes out with both timers started, or waits for the end of
the exchange. R163, R166, R167: an exchange that ends in a miss: the counts by the link's state. The third miss in a
row of a link that was OK or WAIT loses it: the leg is unverified and out of the stance set.
That LEG_COMMAND_SEND in an exchange marks a command as waiting is the model's choice (log entry 44); so are the marks of
an exchange (log entry 7). -/
def Obligations.CommandsGoOutAndMissesAreCounted : Prop :=
  (∀ (s : State) (l : Leg),
     let record := commandRecord (s.cmdOf l)
     let sent := { s with llc := s.llc.modify l fun k => { k with awaiting := true, sendWaiting := false,
                                                                  refresh := some 0, report := some 0,
                                                                  sent := some record } }
     let waits := { s with llc := s.llc.modify l fun k => { k with sendWaiting := true } }
     ((s.link l).awaiting = false → exec (.legCommandSend l) s = .next sent ∧
       ((s.link l).refresh ≠ none → exec (.legRefreshDue l) s = .next sent)) ∧
     ((s.link l).awaiting = true → exec (.legCommandSend l) s = .next waits ∧
       ((s.link l).refresh ≠ none → exec (.legRefreshDue l) s = .next waits))) ∧
  (∀ (s : State) (l : Leg), (s.link l).awaiting = true →
     ((s.link l).sendWaiting = false → (s.link l).link ≠ .lost → (s.link l).miss < 2 →
       exec (.legReportTimeout l) s =
         .next { s with llc := s.llc.modify l fun k => { k with awaiting := false, report := none, miss := k.miss + 1,
                                                                missTotal := min 65535 (k.missTotal + 1) } }) ∧
     ((s.link l).sendWaiting = false → (s.link l).link = .lost →
       exec (.legReportTimeout l) s =
         .next { s with llc := s.llc.modify l fun k => { k with awaiting := false, report := none, good := 0,
                                                                missTotal := min 65535 (k.missTotal + 1) } }) ∧
     ((s.link l).link ≠ .lost → (s.link l).miss = 2 →
       ∃ t, exec (.legReportTimeout l) s = .next t ∧ (t.link l).link = .lost ∧ (t.link l).miss = 0 ∧
         (t.link l).good = 0 ∧ (t.link l).missTotal = min 65535 ((s.link l).missTotal + 1) ∧
         (t.link l).last = (s.link l).last ∧ t.verifiedOf l = false ∧ t.inStance l = false ∧
         (t.link l).overload = false ∧ t.pc.lowered.get l = false ∧ (∀ k, k ≠ l → (t.link k).link = (s.link k).link) ∧
         t.atp = s.atp ∧ t.tdu = s.tdu))

/-- A good report of an admitted leg ends an exchange on a link that is OK. The leg awaits no first report, the report
carries no flag of trouble, the protect latch is clear, and no CROUCH runs. -/
def reports (s : State) (l : Leg) (record : List Byte) (r : Report) : Prop :=
  (s.link l).awaiting = true ∧ judgeReport record = .good r ∧ (s.link l).link = .ok ∧ (s.link l).withdrawn = false ∧
    s.pc.awaitFirst.get l = false ∧ r.obstruct = false ∧ r.overload = false ∧ (s.link l).overload = false ∧
    s.pc.protect = false ∧ s.rxu.crouch = .clear ∧ StanceSetCurrent s

/-- R178, R179: what the temperature of a taken report makes of its leg: a band above the level becomes the level, with a
fresh hold; with the hold stopped, a temperature at or below the level's fall point brings the level down by one, with a
fresh hold; else the temperature alone is new. -/
def warmed (k : ThermalLeg) (temp : Int) : ThermalLeg :=
  let band := if 95 ≤ temp then 3 else if 85 ≤ temp then 2 else if 70 ≤ temp then 1 else 0
  if k.level < band then { level := band, hold := some 0, last := some temp }
  else if k.hold = none ∧ ((k.level = 1 ∧ temp ≤ 65) ∨ (k.level = 2 ∧ temp ≤ 80) ∨ (k.level = 3 ∧ temp ≤ 90)) then
    { level := k.level - 1, hold := some 0, last := some temp }
  else { k with last := some temp }

/-- R163, R164, R165, R166: a record that finds the exchange idle changes nothing; a bad one is a miss; a good one on
a link that is not LOST becomes the last report and makes the link OK. R178, R179, R181: its temperature raises or lowers
the leg's derate level, and the body level is formed again; of a leg that lies at REST the HEAT note of a change is the
only note. -/
def Obligations.ReportsAreJudged : Prop :=
  ∀ (s : State) (l : Leg) (record : List Byte),
    ((s.link l).awaiting = false → exec (.legReportArrival l record) s = .next s) ∧
    ((s.link l).awaiting = true → judgeReport record = .miss →
      exec (.legReportArrival l record) s = exec (.legReportTimeout l) s) ∧
    (∀ r, (s.link l).awaiting = true → judgeReport record = .good r → (s.link l).link ≠ .lost →
      ∃ t, exec (.legReportArrival l record) s = .next t ∧ (t.link l).last = some r ∧ (t.link l).link = .ok ∧
        (t.link l).miss = 0 ∧ (t.link l).moduleFault = false ∧
        t.tdu.legs = s.tdu.legs.set l (warmed (s.tdu.legs.get l) r.temp) ∧
        (LevelsSound s → t.tdu = { s.tdu with legs := t.tdu.legs, body := t.bodyLevel }) ∧
        (reports s l record r → s.pc.body = .rest → s.inStance l = false → s.rxu.liftTimer = none →
          s.ssq.phase = .idle → s.pls.placement = none →
          t.hli = (if t.tdu.body = s.tdu.body then s
            else s.postNote (.heat s.tdu.body t.tdu.body (t.tdu.legs.map ThermalLeg.level) s.tdu.external .leg)).hli) ∧
        (∀ k, k ≠ l → (t.link k).last = (s.link k).last ∧ (t.link k).link = (s.link k).link) ∧ t.atp = s.atp)

/-- Only the walk's own next phase waits: no stop mark, nothing pending, no rise of RE1 waiting, no stale attitude. -/
def walksOn (s : State) : Prop :=
  s.pc.body = .walk ∧ Striding s ∧ s.rxu.stack = [] ∧ s.rxu.pending = [] ∧ s.rxu.waiting = false ∧
    s.ssq.stopMark = false ∧ s.scu.attStale = false

/-- What a report does to the body and the walk. R8: the last report that a rise waits for verifies the admitted legs and
the body stands. R13: the last that a lowering waits for ends it in REST. R15: a first report after a warm reset into
UNSETTLED makes the leg STANCE where it was found. R59: SWING_DONE begins the placement. R77, R61: a report that
verifies an attempt puts the leg into the stance set, consumes its entry, and the PROPEL begins. R62, R63: the report
that settles a PROPEL adds the quarter, returns the sway and ends the step. R129 to R132: a stance report is recorded, or
is the second of low force. R156: the last report that a CROUCH waits for. R164: how a record is judged. R167: a LOST
link comes back on its third good report. R168, R169: the OBSTRUCT and OVERLOAD flags. A TIP that the report itself
brings is taken before what the report would lead to (R26, R165); where that may be, the clause says so by the crouch
mark. R102: the entry consumed. That the TIP test comes once the new activity is in place, that the step index is 1 after
a fourth step, and that a MODULE_FAULT note counts its own miss are the model's choices (log entries 9, 50 and 38). -/
def Obligations.TakenReportsMoveTheBodyOn : Prop :=
  (∀ (s : State) (l : Leg) (record : List Byte) (r : Report), reports s l record r →
     let told := exec (.legReportArrival l record) s
     (s.pc.body = .rising → s.rxu.stack = [] → s.rxu.waiting = false →
       (∀ k, k ≠ l → (s.link k).withdrawn = false → s.pc.roseReported.get k = true ∧ (s.link k).link = .ok ∧
         ∃ q, (s.link k).last = some q ∧ (q.z - s.pc.geom.stand).natAbs ≤ 10 ∧ s.zone.surface.contact ≤ q.force) →
       (r.z - s.pc.geom.stand).natAbs ≤ 10 → s.zone.surface.contact ≤ r.force →
       ∃ t, told = .next t ∧ t.pc.riseTimer = none ∧ (∀ k, (s.link k).withdrawn = false → t.verifiedOf k = true) ∧
         (t.rxu.crouch = .clear → t.pc.body = .stand) ∧ (t.rxu.crouch ≠ .clear → t.pc.body = .recover)) ∧
     (s.pc.body = .rising → (r.z - s.pc.geom.stand).natAbs > 10 ∨ r.force < s.zone.surface.contact →
       ∃ t, told = .next t ∧ t.pc = { s.pc with roseReported := s.pc.roseReported.set l true }) ∧
     (s.pc.body = .lowering → s.pc.lowered.get l = true →
       (∀ k, k ≠ l → s.pc.lowered.get k = true → (s.link k).link = .ok →
         ∃ q, (s.link k).last = some q ∧ (q.z + 150).natAbs ≤ 10) →
       (r.z + 150).natAbs ≤ 10 →
       ∃ t, told = .next t ∧ t.pc.body = .rest ∧ t.pc.postureSafe = true ∧ t.pc.loweringTimer = none ∧
         t.scu.sway = ⟨0, 0⟩ ∧ (∀ k, t.modeOf k = .limp ∧ t.verifiedOf k = false ∧ t.inStance k = false)) ∧
     (s.ssq.phase = .swing → s.ssq.stepping = some l → s.modeOf l = .swing → s.rxu.liftTimer = none →
       s.pc.body.standing = true → OneLegInAir s → r.swingDone = true →
       ∃ t, told = .next t ∧ t.ssq.phase = .place ∧ t.ssq.phaseTimer = none ∧ t.modeOf l = .placing ∧
         (t.cmdOf l).target = clampPoint (s.cmdOf l).target ∧
         t.pls = { s.pls with placement := some l, sub := .lower, attempt := 0, target := (s.cmdOf l).target,
                              attemptTarget := (s.cmdOf l).target, liftClearance := (s.cmdOf l).clearance,
                              maxReplace := s.ssq.latched.maxReplace, surface := s.ssq.latched.surface,
                              entry := (s.queueOf l).entries.head?.filter Foothold.inUse, placeTimer := some 0,
                              reswingTimer := none } ∧
         (∀ k, k ≠ l → t.cmdOf k = s.cmdOf k) ∧ t.pc = s.pc ∧ t.rxu = s.rxu ∧ t.fhq = s.fhq ∧ t.scu = s.scu) ∧
     (s.pls.placement = some l → s.pls.sub = .lower → s.modeOf l = .placing → s.ssq.phase = .place → walksOn s →
       s.rxu.liftTimer = none → OneLegInAir s →
       (s.pls.entry.bind Foothold.contact).getD s.pls.surface.contact ≤ r.force →
       ((r.x - s.pls.attemptTarget.x).natAbs + (r.y - s.pls.attemptTarget.y).natAbs : Int) ≤ s.pls.surface.tolerance →
       ∃ t, told = .next t ∧ t.pls.placement = none ∧ t.modeOf l = .stance ∧ t.verifiedOf l = true ∧
         t.inStance l = true ∧
         (t.rxu.crouch = .clear →
           (∀ e rest, s.pls.entry.isSome = true → (s.queueOf l).entries = e :: rest →
             (t.queueOf l).entries = rest ∧ (t.queueOf l).consumed = some e.tag) ∧
           (s.pls.entry = none → t.fhq = s.fhq) ∧
           (t.tdu.body < 3 →
             let quarter := (if s.ssq.dir = .forward then 1 else -1) * s.ssq.latched.effective.tdiv 4
             let moved := fun p : Point => clampPoint ⟨p.x - quarter + s.scu.sway.x, p.y + s.scu.sway.y, p.z⟩
             t.ssq.phase = .propel ∧ t.ssq.phaseTimer = some 0 ∧ t.ssq.quarter = quarter ∧
               (t.cmdOf l).target = moved (clampPoint s.pls.attemptTarget) ∧
               (∀ k, k ≠ l → s.modeOf k = .stance → (t.cmdOf k).target = moved (s.cmdOf k).target) ∧
               (∀ k, k ≠ l → s.modeOf k ≠ .stance → t.cmdOf k = s.cmdOf k)))) ∧
     (s.ssq.phase = .propel → s.inStance l = true → walksOn s → s.pls.placement = none →
       s.zone.surface.unloadLimit ≤ r.force →
       (r.x - (s.cmdOf l).target.x).natAbs + (r.y - (s.cmdOf l).target.y).natAbs ≤ s.slipThreshold →
       (r.x - (s.cmdOf l).target.x).natAbs ≤ 5 → (r.y - (s.cmdOf l).target.y).natAbs ≤ 5 →
       (r.z - (s.cmdOf l).target.z).natAbs ≤ 5 →
       (∀ k, k ≠ l → s.inStance k = true → ((s.footOf k).x - (s.cmdOf k).target.x).natAbs ≤ 5 ∧
         ((s.footOf k).y - (s.cmdOf k).target.y).natAbs ≤ 5 ∧ ((s.footOf k).z - (s.cmdOf k).target.z).natAbs ≤ 5) →
       ∃ t, told = .next t ∧ (t.rxu.crouch = .clear →
         t.ssq.odometer = (max 0 (min 16777215 (s.ssq.odometer + s.ssq.quarter))).toNat ∧ t.scu.sway = ⟨0, 0⟩ ∧
         t.ztb.inForce = lookupIn s.ztb.entries t.ssq.odometer ∧
         (s.ssq.index ≠ 4 → t.ssq.index = s.ssq.index + 1 ∧ t.ssq.count = s.ssq.count ∧
           (t.tdu.body < 3 → t.ssq.phase = .shift ∧ t.ssq.phaseTimer = some 0 ∧
             t.ssq.stepping = some (s.ssq.order.nth (s.ssq.index + 1)))) ∧
         (s.ssq.index = 4 → t.ssq.count = s.ssq.count - 1 ∧ t.ssq.index = 1 ∧
           (s.ssq.count ≤ 1 → t.pc.body = .stand ∧ t.ssq.phase = .idle ∧ t.ssq.stepping = none ∧ t.ssq.next = none) ∧
           (1 < s.ssq.count → t.tdu.body < 2 → t.ssq.phase = .shift ∧ t.ssq.stepping = some t.ssq.order.first) ∧
           (1 < s.ssq.count → t.tdu.body = 2 → t.ssq.phase = .pause ∧ t.ssq.stepping = none)))) ∧
     (s.inStance l = true → s.pc.body.standing = true → s.rxu.running = none → s.rxu.stack = [] →
       s.rxu.waiting = false → s.pls.placement = none →
       let d := min 255 ((r.x - (s.cmdOf l).target.x).natAbs + (r.y - (s.cmdOf l).target.y).natAbs)
       (s.zone.surface.unloadLimit ≤ r.force → (s.slipOf l).steady = true → d ≤ s.slipThreshold →
         ∃ t, told = .next t ∧ (t.slipOf l).newest = some d ∧ (t.slipOf l).lowForce = 0 ∧ (t.slipOf l).slip = false ∧
           (t.slipOf l).lastThreshold = some s.slipThreshold ∧
           ((s.slipOf l).length ≠ 0 → s.slm.store.length = 64 → WindowSound (s.slipOf l) →
             t.slm.store[(s.slipOf l).next]? = some d)) ∧
       (s.zone.surface.unloadLimit ≤ r.force → (s.slipOf l).steady = true → s.slipThreshold < d →
         (s.slipOf l).length = 0 → (s.slipOf l).slip = false → s.rxu.re1 = false →
         ∃ t, told = .next t ∧ (t.slipOf l).slip = true ∧ ⟨.slip, l⟩ ∈ t.rxu.pending) ∧
       (r.force < s.zone.surface.unloadLimit → (s.slipOf l).lowForce = 0 →
         ∃ t, told = .next t ∧ (t.slipOf l).lowForce = 1) ∧
       (r.force < s.zone.surface.unloadLimit → (s.slipOf l).lowForce = 1 → s.rxu.re1 = false →
         ∃ t, told = .next t ∧ t.verifiedOf l = false ∧ t.inStance l = false ∧ (t.slipOf l).lowForce = 0 ∧
           (t.slipOf l).fill = 0 ∧ ⟨.unload, l⟩ ∈ t.rxu.pending))) ∧
  (∀ (s : State) (l : Leg) (record : List Byte) (r : Report), (s.link l).awaiting = true →
     judgeReport record = .good r →
     let told := exec (.legReportArrival l record) s
     ((s.link l).link = .ok → s.pc.body = .unsettled → s.scu.survey = true → s.pc.awaitFirst.get l = true →
       (∃ k, k ≠ l ∧ s.pc.awaitFirst.get k = true) → (s.link l).withdrawn = false → s.modeOf l = .hold →
       s.pc.protect = false → s.rxu.crouch = .clear → s.rxu.running = none → s.ssq.phase = .idle →
       s.pls.placement = none → StanceSetCurrent s → r.obstruct = false → r.overload = false →
       (s.link l).overload = false →
       ∃ t, told = .next t ∧ (t.cmdOf l) = { s.cmdOf l with mode := .stance, target := ⟨r.x, r.y, r.z⟩ } ∧
         t.verifiedOf l = (s.verifiedOf l || decide (60 ≤ r.force)) ∧ t.inStance l = t.verifiedOf l ∧
         t.pc = { s.pc with awaitFirst := s.pc.awaitFirst.set l false } ∧ t.scu.survey = true ∧
         (∀ k, k ≠ l → t.cmdOf k = s.cmdOf k)) ∧
     ((s.link l).link = .ok → s.rxu.crouch = .running → s.rxu.crouching.get l = true → s.pc.protect = false →
       s.pc.body = .recover → s.pc.awaitFirst.get l = false → StanceSetCurrent s →
       (r.z - s.pc.geom.crouch).natAbs ≤ 10 → s.zone.surface.contact ≤ r.force →
       (∀ k, k ≠ l → s.rxu.crouching.get k = true →
         ∃ q, (s.link k).last = some q ∧ (q.z - s.pc.geom.crouch).natAbs ≤ 10 ∧ s.zone.surface.contact ≤ q.force) →
       ∃ t, told = .next t ∧ t.rxu.crouch = .crouched ∧ t.rxu.stageTimer = none ∧ t.rxu.stack = s.rxu.stack ∧
         t.rxu.running = s.rxu.running ∧ t.pc = s.pc ∧ t.ssq.cmd = s.ssq.cmd) ∧
     ((s.link l).link ≠ .lost →
       (r.obstruct = false → ∃ t, told = .next t ∧ (t.link l).obstruct = false) ∧
       (r.overload = false → PendingSound s → ∃ t, told = .next t ∧ (t.link l).overload = false ∧
         ⟨.overload, l⟩ ∉ t.rxu.pending)) ∧
     ((s.link l).link = .ok → s.pc.body.standing = true → (s.link l).withdrawn = false →
       s.pc.awaitFirst.get l = false → StanceSetCurrent s → s.rxu.re1 = false → s.rxu.running = none →
       s.rxu.waiting = false →
       (r.obstruct = true → r.overload = false → (s.link l).obstruct = false → s.modeOf l = .swing →
         r.swingDone = false → s.pls.placement ≠ some l →
         ∃ t, told = .next t ∧ (t.link l).obstruct = true ∧ ⟨.obstruct, l⟩ ∈ t.rxu.pending) ∧
       (r.overload = true → (s.link l).overload = false → s.modeOf l ≠ .limp →
         ∃ t, told = .next t ∧ (t.link l).overload = true ∧ ⟨.overload, l⟩ ∈ t.rxu.pending)) ∧
     ((s.link l).link = .lost → (s.link l).good < 2 → (s.link l).sendWaiting = false →
       told = .next { s with llc := s.llc.modify l fun k => { k with awaiting := false, report := none,
                                                                     good := k.good + 1, moduleFault := false } }) ∧
     ((s.link l).link = .lost → (s.link l).good = 2 →
       ∃ t, told = .next t ∧ (t.link l).link = .ok ∧ (t.link l).good = 0 ∧ (t.link l).miss = 0 ∧
         (t.link l).last = some r)) ∧
  (∀ (s : State) (l : Leg) (record : List Byte), (s.link l).awaiting = true → judgeReport record = .moduleFault →
     ((s.link l).moduleFault = true →
       exec (.legReportArrival l record) s = exec (.legReportTimeout l) s) ∧
     ((s.link l).moduleFault = false → (s.link l).link ≠ .lost → (s.link l).miss < 2 → (s.link l).sendWaiting = false →
       let total := min 65535 ((s.link l).missTotal + 1)
       exec (.legReportArrival l record) s =
         .next { s with llc := s.llc.modify l fun k => { k with awaiting := false, report := none, moduleFault := true,
                                                                miss := k.miss + 1, missTotal := total },
                        hli := (s.postNote (.leg l .moduleFault total)).hli })) ∧
  (∀ record : List Byte, (record.length ≠ 13 → judgeReport record = .miss) ∧
     ∀ r, reportOfBytes record = some r → byteSum record = 0 →
       (r.fault = true → judgeReport record = .moduleFault) ∧
       (let within := -2000 ≤ r.x ∧ r.x ≤ 2000 ∧ -2000 ≤ r.y ∧ r.y ≤ 2000 ∧ -2000 ≤ r.z ∧ r.z ≤ 2000 ∧
          0 ≤ r.force ∧ r.force ≤ 2000 ∧ -40 ≤ r.temp ∧ r.temp ≤ 150 ∧ r.suggested ≤ 7
        r.fault = false → (within → judgeReport record = .good r) ∧ (¬ within → judgeReport record = .miss)))

/-! ## Thermal derating -/

/-- R179, R180, R181: a hold that runs out stops; with the link OK and the last temperature at or below the fall point
the level falls by one, with a fresh hold and the body level formed again. -/
def Obligations.AHoldThatRunsOutMayFall : Prop :=
  ∀ (s : State) (l : Leg), (s.tdu.legs.get l).hold ≠ none → LevelsSound s →
    let k := s.tdu.legs.get l
    let stopped := { s with tdu.legs := s.tdu.legs.set l { k with hold := none } }
    let falls := fun temp => (k.level = 1 ∧ temp ≤ (65 : Int)) ∨ (k.level = 2 ∧ temp ≤ 80) ∨ (k.level = 3 ∧ temp ≤ 90)
    ((s.link l).link ≠ .ok ∨ k.last = none ∨ (∃ temp, k.last = some temp ∧ ¬ falls temp) →
      exec (.holdTimerExpiry l) s = .next stopped) ∧
    (∀ temp, (s.link l).link = .ok → k.last = some temp → falls temp →
      ∃ t, exec (.holdTimerExpiry l) s = .next t ∧
        t.tdu.legs.get l = { level := k.level - 1, hold := some 0, last := k.last } ∧
        (∀ j, j ≠ l → t.tdu.legs.get j = s.tdu.legs.get j) ∧
        t.tdu = { s.tdu with legs := t.tdu.legs, body := t.bodyLevel } ∧ t = { s with tdu := t.tdu, hli := t.hli } ∧
        t.hli = (if t.bodyLevel = s.tdu.body then s
          else s.postNote (.heat s.tdu.body t.bodyLevel (t.tdu.legs.map ThermalLeg.level) s.tdu.external .leg)).hli)

/-- R183, R184: a sense counts in the sense window alone, and two equal senses move external hot; the drive window
pulls the line for the legs' levels alone, and ends in a sense window with the line released.
What these events do out of turn (a sense in a drive window, a drive window begun in one, one ended in none) is the
model's choice (log entry 57). -/
def Obligations.TheHotLineIsSensedAndDriven : Prop :=
  ∀ s : State,
    (∀ asserted, s.tdu.window = .drive → exec (.hotzSense asserted) s = .next s) ∧
    (∀ asserted, s.tdu.window = .sense → s.tdu.lastSense ≠ some asserted →
      exec (.hotzSense asserted) s = .next { s with tdu.lastSense := some asserted, tdu.run := 1 }) ∧
    (∀ asserted, s.tdu.window = .sense → s.tdu.lastSense = some asserted → 1 ≤ s.tdu.run → LevelsSound s →
      ∃ t, exec (.hotzSense asserted) s = .next t ∧ t.tdu.external = asserted ∧ t.tdu.run = 2 ∧
        t.tdu.lastSense = some asserted ∧ t.tdu.legs = s.tdu.legs ∧ t.tdu.body = t.bodyLevel ∧
        t = { s with tdu := t.tdu, hli := t.hli } ∧
        t.hli = (if t.bodyLevel = s.tdu.body then s
          else s.postNote (.heat s.tdu.body t.bodyLevel (s.tdu.legs.map ThermalLeg.level) asserted .external)).hli) ∧
    exec .hotzDriveWindow s =
      .next { s with tdu.window := .drive,
                     tdu.driving := Leg.all.any fun l => decide (2 ≤ (s.tdu.legs.get l).level) } ∧
    exec .driveWindowEnd s = .next { s with tdu.window := .sense, tdu.driving := false }
end

