-- ==== Sys2Proof/Laws/State.lean ====
section
/-! SUPPORT. Reading a state after an update: per-leg values, the accessors over a written-out state, and, for each
operation that is a plain update, the blocks it leaves alone. -/

namespace Sys2Proof.Machine

/-! ## Per-leg values -/

namespace PerLeg

variable {α β : Type}

@[simp] theorem get_set_self (p : PerLeg α) (l : Leg) (a : α) : (p.set l a).get l = a := by cases l <;> rfl

theorem get_set_of_ne (p : PerLeg α) {k l : Leg} (a : α) (h : k ≠ l) : (p.set l a).get k = p.get k := by
  cases k <;> cases l <;> first | rfl | exact absurd rfl h

theorem get_set (p : PerLeg α) (k l : Leg) (a : α) : (p.set l a).get k = if k = l then a else p.get k := by
  cases k <;> cases l <;> rfl

@[simp] theorem get_modify_self (p : PerLeg α) (l : Leg) (f : α → α) : (p.modify l f).get l = f (p.get l) := by
  cases l <;> rfl

theorem get_modify_of_ne (p : PerLeg α) {k l : Leg} (f : α → α) (h : k ≠ l) : (p.modify l f).get k = p.get k :=
  get_set_of_ne p _ h

theorem get_modify (p : PerLeg α) (k l : Leg) (f : α → α) :
    (p.modify l f).get k = if k = l then f (p.get k) else p.get k := by
  cases k <;> cases l <;> rfl

@[simp] theorem get_all (a : α) (l : Leg) : (PerLeg.all a).get l = a := by cases l <;> rfl

@[simp] theorem get_map (f : α → β) (p : PerLeg α) (l : Leg) : (p.map f).get l = f (p.get l) := by cases l <;> rfl

@[simp] theorem get_tab (f : Leg → α) (l : Leg) : (PerLeg.tab f).get l = f l := by cases l <;> rfl

@[simp] theorem set_get (p : PerLeg α) (l : Leg) : p.set l (p.get l) = p := by cases l <;> rfl

theorem ext_get {p q : PerLeg α} (h : ∀ l, p.get l = q.get l) : p = q := by
  cases p; cases q; have := h .lf; have := h .rf; have := h .lh; have := h .rh; simp_all [get]

end PerLeg

theorem Leg.mem_all (l : Leg) : l ∈ Leg.all := by cases l <;> decide

theorem Leg.mem_polygon (l : Leg) : l ∈ Leg.polygon := by cases l <;> decide

/-! ## Accessors over a written-out state -/

section
variable (pc : Posture) (atp : Attitude) (scu : Support) (ssq : Strider) (pls : Placer) (fhq : PerLeg FootholdQueue)
  (ztb : Zones) (slm : Slip) (rxu : Reflexes) (llc : PerLeg Link) (tdu : Thermal) (hli : HostLink)
  (pending : List Instr) (l : Leg)

@[simp] theorem State.link_mk :
    State.link (State.mk pc atp scu ssq pls fhq ztb slm rxu llc tdu hli pending) l = llc.get l := rfl

@[simp] theorem State.cmdOf_mk :
    State.cmdOf (State.mk pc atp scu ssq pls fhq ztb slm rxu llc tdu hli pending) l = ssq.cmd.get l := rfl

@[simp] theorem State.modeOf_mk :
    State.modeOf (State.mk pc atp scu ssq pls fhq ztb slm rxu llc tdu hli pending) l = (ssq.cmd.get l).mode := rfl

@[simp] theorem State.verifiedOf_mk :
    State.verifiedOf (State.mk pc atp scu ssq pls fhq ztb slm rxu llc tdu hli pending) l = ssq.verified.get l := rfl

@[simp] theorem State.slipOf_mk :
    State.slipOf (State.mk pc atp scu ssq pls fhq ztb slm rxu llc tdu hli pending) l = slm.legs.get l := rfl

@[simp] theorem State.queueOf_mk :
    State.queueOf (State.mk pc atp scu ssq pls fhq ztb slm rxu llc tdu hli pending) l = fhq.get l := rfl

@[simp] theorem State.inStance_mk :
    State.inStance (State.mk pc atp scu ssq pls fhq ztb slm rxu llc tdu hli pending) l = scu.stance.get l := rfl

end

namespace State

/-! ## What each plain update leaves alone -/

@[simp] theorem recordPredicted_pc (s : State) (l : Leg) : (s.recordPredicted l).pc = s.pc := rfl
@[simp] theorem recordPredicted_atp (s : State) (l : Leg) : (s.recordPredicted l).atp = s.atp := rfl
@[simp] theorem recordPredicted_ssq (s : State) (l : Leg) : (s.recordPredicted l).ssq = s.ssq := rfl
@[simp] theorem recordPredicted_pls (s : State) (l : Leg) : (s.recordPredicted l).pls = s.pls := rfl
@[simp] theorem recordPredicted_fhq (s : State) (l : Leg) : (s.recordPredicted l).fhq = s.fhq := rfl
@[simp] theorem recordPredicted_ztb (s : State) (l : Leg) : (s.recordPredicted l).ztb = s.ztb := rfl
@[simp] theorem recordPredicted_slm (s : State) (l : Leg) : (s.recordPredicted l).slm = s.slm := rfl
@[simp] theorem recordPredicted_rxu (s : State) (l : Leg) : (s.recordPredicted l).rxu = s.rxu := rfl
@[simp] theorem recordPredicted_llc (s : State) (l : Leg) : (s.recordPredicted l).llc = s.llc := rfl
@[simp] theorem recordPredicted_tdu (s : State) (l : Leg) : (s.recordPredicted l).tdu = s.tdu := rfl
@[simp] theorem recordPredicted_hli (s : State) (l : Leg) : (s.recordPredicted l).hli = s.hli := rfl
@[simp] theorem recordPredicted_pending (s : State) (l : Leg) : (s.recordPredicted l).pending = s.pending := rfl

@[simp] theorem setVerified_pc (s : State) (l : Leg) (v : Bool) : (s.setVerified l v).pc = s.pc := rfl
@[simp] theorem setVerified_atp (s : State) (l : Leg) (v : Bool) : (s.setVerified l v).atp = s.atp := rfl
@[simp] theorem setVerified_scu (s : State) (l : Leg) (v : Bool) : (s.setVerified l v).scu = s.scu := rfl
@[simp] theorem setVerified_pls (s : State) (l : Leg) (v : Bool) : (s.setVerified l v).pls = s.pls := rfl
@[simp] theorem setVerified_fhq (s : State) (l : Leg) (v : Bool) : (s.setVerified l v).fhq = s.fhq := rfl
@[simp] theorem setVerified_ztb (s : State) (l : Leg) (v : Bool) : (s.setVerified l v).ztb = s.ztb := rfl
@[simp] theorem setVerified_slm (s : State) (l : Leg) (v : Bool) : (s.setVerified l v).slm = s.slm := rfl
@[simp] theorem setVerified_rxu (s : State) (l : Leg) (v : Bool) : (s.setVerified l v).rxu = s.rxu := rfl
@[simp] theorem setVerified_llc (s : State) (l : Leg) (v : Bool) : (s.setVerified l v).llc = s.llc := rfl
@[simp] theorem setVerified_tdu (s : State) (l : Leg) (v : Bool) : (s.setVerified l v).tdu = s.tdu := rfl
@[simp] theorem setVerified_hli (s : State) (l : Leg) (v : Bool) : (s.setVerified l v).hli = s.hli := rfl
@[simp] theorem setVerified_pending (s : State) (l : Leg) (v : Bool) : (s.setVerified l v).pending = s.pending := rfl

@[simp] theorem unsteady_pc (s : State) (l : Leg) : (s.unsteady l).pc = s.pc := rfl
@[simp] theorem unsteady_atp (s : State) (l : Leg) : (s.unsteady l).atp = s.atp := rfl
@[simp] theorem unsteady_scu (s : State) (l : Leg) : (s.unsteady l).scu = s.scu := rfl
@[simp] theorem unsteady_ssq (s : State) (l : Leg) : (s.unsteady l).ssq = s.ssq := rfl
@[simp] theorem unsteady_pls (s : State) (l : Leg) : (s.unsteady l).pls = s.pls := rfl
@[simp] theorem unsteady_fhq (s : State) (l : Leg) : (s.unsteady l).fhq = s.fhq := rfl
@[simp] theorem unsteady_ztb (s : State) (l : Leg) : (s.unsteady l).ztb = s.ztb := rfl
@[simp] theorem unsteady_rxu (s : State) (l : Leg) : (s.unsteady l).rxu = s.rxu := rfl
@[simp] theorem unsteady_llc (s : State) (l : Leg) : (s.unsteady l).llc = s.llc := rfl
@[simp] theorem unsteady_tdu (s : State) (l : Leg) : (s.unsteady l).tdu = s.tdu := rfl
@[simp] theorem unsteady_hli (s : State) (l : Leg) : (s.unsteady l).hli = s.hli := rfl
@[simp] theorem unsteady_pending (s : State) (l : Leg) : (s.unsteady l).pending = s.pending := rfl

@[simp] theorem tellGone_pc (s : State) (c : Cause) (l : Leg) : (s.tellGone c l).pc = s.pc := rfl
@[simp] theorem tellGone_atp (s : State) (c : Cause) (l : Leg) : (s.tellGone c l).atp = s.atp := rfl
@[simp] theorem tellGone_scu (s : State) (c : Cause) (l : Leg) : (s.tellGone c l).scu = s.scu := rfl
@[simp] theorem tellGone_ssq (s : State) (c : Cause) (l : Leg) : (s.tellGone c l).ssq = s.ssq := rfl
@[simp] theorem tellGone_pls (s : State) (c : Cause) (l : Leg) : (s.tellGone c l).pls = s.pls := rfl
@[simp] theorem tellGone_fhq (s : State) (c : Cause) (l : Leg) : (s.tellGone c l).fhq = s.fhq := rfl
@[simp] theorem tellGone_ztb (s : State) (c : Cause) (l : Leg) : (s.tellGone c l).ztb = s.ztb := rfl
@[simp] theorem tellGone_slm (s : State) (c : Cause) (l : Leg) : (s.tellGone c l).slm = s.slm := rfl
@[simp] theorem tellGone_llc (s : State) (c : Cause) (l : Leg) : (s.tellGone c l).llc = s.llc := rfl
@[simp] theorem tellGone_tdu (s : State) (c : Cause) (l : Leg) : (s.tellGone c l).tdu = s.tdu := rfl
@[simp] theorem tellGone_hli (s : State) (c : Cause) (l : Leg) : (s.tellGone c l).hli = s.hli := rfl
@[simp] theorem tellGone_pending (s : State) (c : Cause) (l : Leg) : (s.tellGone c l).pending = s.pending := rfl

@[simp] theorem removeEdges_pc (s : State) : (s.removeEdges).pc = s.pc := rfl
@[simp] theorem removeEdges_atp (s : State) : (s.removeEdges).atp = s.atp := rfl
@[simp] theorem removeEdges_scu (s : State) : (s.removeEdges).scu = s.scu := rfl
@[simp] theorem removeEdges_ssq (s : State) : (s.removeEdges).ssq = s.ssq := rfl
@[simp] theorem removeEdges_pls (s : State) : (s.removeEdges).pls = s.pls := rfl
@[simp] theorem removeEdges_fhq (s : State) : (s.removeEdges).fhq = s.fhq := rfl
@[simp] theorem removeEdges_ztb (s : State) : (s.removeEdges).ztb = s.ztb := rfl
@[simp] theorem removeEdges_slm (s : State) : (s.removeEdges).slm = s.slm := rfl
@[simp] theorem removeEdges_llc (s : State) : (s.removeEdges).llc = s.llc := rfl
@[simp] theorem removeEdges_tdu (s : State) : (s.removeEdges).tdu = s.tdu := rfl
@[simp] theorem removeEdges_hli (s : State) : (s.removeEdges).hli = s.hli := rfl
@[simp] theorem removeEdges_pending (s : State) : (s.removeEdges).pending = s.pending := rfl

@[simp] theorem removeLeg_pc (s : State) (l : Leg) : (s.removeLeg l).pc = s.pc := rfl
@[simp] theorem removeLeg_atp (s : State) (l : Leg) : (s.removeLeg l).atp = s.atp := rfl
@[simp] theorem removeLeg_scu (s : State) (l : Leg) : (s.removeLeg l).scu = s.scu := rfl
@[simp] theorem removeLeg_ssq (s : State) (l : Leg) : (s.removeLeg l).ssq = s.ssq := rfl
@[simp] theorem removeLeg_pls (s : State) (l : Leg) : (s.removeLeg l).pls = s.pls := rfl
@[simp] theorem removeLeg_fhq (s : State) (l : Leg) : (s.removeLeg l).fhq = s.fhq := rfl
@[simp] theorem removeLeg_ztb (s : State) (l : Leg) : (s.removeLeg l).ztb = s.ztb := rfl
@[simp] theorem removeLeg_slm (s : State) (l : Leg) : (s.removeLeg l).slm = s.slm := rfl
@[simp] theorem removeLeg_llc (s : State) (l : Leg) : (s.removeLeg l).llc = s.llc := rfl
@[simp] theorem removeLeg_tdu (s : State) (l : Leg) : (s.removeLeg l).tdu = s.tdu := rfl
@[simp] theorem removeLeg_hli (s : State) (l : Leg) : (s.removeLeg l).hli = s.hli := rfl
@[simp] theorem removeLeg_pending (s : State) (l : Leg) : (s.removeLeg l).pending = s.pending := rfl

@[simp] theorem emptyWindow_pc (s : State) (l : Leg) : (s.emptyWindow l).pc = s.pc := rfl
@[simp] theorem emptyWindow_atp (s : State) (l : Leg) : (s.emptyWindow l).atp = s.atp := rfl
@[simp] theorem emptyWindow_scu (s : State) (l : Leg) : (s.emptyWindow l).scu = s.scu := rfl
@[simp] theorem emptyWindow_ssq (s : State) (l : Leg) : (s.emptyWindow l).ssq = s.ssq := rfl
@[simp] theorem emptyWindow_pls (s : State) (l : Leg) : (s.emptyWindow l).pls = s.pls := rfl
@[simp] theorem emptyWindow_fhq (s : State) (l : Leg) : (s.emptyWindow l).fhq = s.fhq := rfl
@[simp] theorem emptyWindow_ztb (s : State) (l : Leg) : (s.emptyWindow l).ztb = s.ztb := rfl
@[simp] theorem emptyWindow_rxu (s : State) (l : Leg) : (s.emptyWindow l).rxu = s.rxu := rfl
@[simp] theorem emptyWindow_llc (s : State) (l : Leg) : (s.emptyWindow l).llc = s.llc := rfl
@[simp] theorem emptyWindow_tdu (s : State) (l : Leg) : (s.emptyWindow l).tdu = s.tdu := rfl
@[simp] theorem emptyWindow_hli (s : State) (l : Leg) : (s.emptyWindow l).hli = s.hli := rfl
@[simp] theorem emptyWindow_pending (s : State) (l : Leg) : (s.emptyWindow l).pending = s.pending := rfl

@[simp] theorem sendCommand_pc (s : State) (l : Leg) : (s.sendCommand l).pc = s.pc := rfl
@[simp] theorem sendCommand_atp (s : State) (l : Leg) : (s.sendCommand l).atp = s.atp := rfl
@[simp] theorem sendCommand_scu (s : State) (l : Leg) : (s.sendCommand l).scu = s.scu := rfl
@[simp] theorem sendCommand_ssq (s : State) (l : Leg) : (s.sendCommand l).ssq = s.ssq := rfl
@[simp] theorem sendCommand_pls (s : State) (l : Leg) : (s.sendCommand l).pls = s.pls := rfl
@[simp] theorem sendCommand_fhq (s : State) (l : Leg) : (s.sendCommand l).fhq = s.fhq := rfl
@[simp] theorem sendCommand_ztb (s : State) (l : Leg) : (s.sendCommand l).ztb = s.ztb := rfl
@[simp] theorem sendCommand_slm (s : State) (l : Leg) : (s.sendCommand l).slm = s.slm := rfl
@[simp] theorem sendCommand_rxu (s : State) (l : Leg) : (s.sendCommand l).rxu = s.rxu := rfl
@[simp] theorem sendCommand_tdu (s : State) (l : Leg) : (s.sendCommand l).tdu = s.tdu := rfl
@[simp] theorem sendCommand_hli (s : State) (l : Leg) : (s.sendCommand l).hli = s.hli := rfl
@[simp] theorem sendCommand_pending (s : State) (l : Leg) : (s.sendCommand l).pending = s.pending := rfl

@[simp] theorem latchStep_pc (s : State) : (s.latchStep).pc = s.pc := rfl
@[simp] theorem latchStep_atp (s : State) : (s.latchStep).atp = s.atp := rfl
@[simp] theorem latchStep_scu (s : State) : (s.latchStep).scu = s.scu := rfl
@[simp] theorem latchStep_pls (s : State) : (s.latchStep).pls = s.pls := rfl
@[simp] theorem latchStep_fhq (s : State) : (s.latchStep).fhq = s.fhq := rfl
@[simp] theorem latchStep_ztb (s : State) : (s.latchStep).ztb = s.ztb := rfl
@[simp] theorem latchStep_slm (s : State) : (s.latchStep).slm = s.slm := rfl
@[simp] theorem latchStep_rxu (s : State) : (s.latchStep).rxu = s.rxu := rfl
@[simp] theorem latchStep_llc (s : State) : (s.latchStep).llc = s.llc := rfl
@[simp] theorem latchStep_tdu (s : State) : (s.latchStep).tdu = s.tdu := rfl
@[simp] theorem latchStep_hli (s : State) : (s.latchStep).hli = s.hli := rfl
@[simp] theorem latchStep_pending (s : State) : (s.latchStep).pending = s.pending := rfl

@[simp] theorem latchOrder_pc (s : State) : (s.latchOrder).pc = s.pc := rfl
@[simp] theorem latchOrder_atp (s : State) : (s.latchOrder).atp = s.atp := rfl
@[simp] theorem latchOrder_scu (s : State) : (s.latchOrder).scu = s.scu := rfl
@[simp] theorem latchOrder_pls (s : State) : (s.latchOrder).pls = s.pls := rfl
@[simp] theorem latchOrder_fhq (s : State) : (s.latchOrder).fhq = s.fhq := rfl
@[simp] theorem latchOrder_ztb (s : State) : (s.latchOrder).ztb = s.ztb := rfl
@[simp] theorem latchOrder_slm (s : State) : (s.latchOrder).slm = s.slm := rfl
@[simp] theorem latchOrder_rxu (s : State) : (s.latchOrder).rxu = s.rxu := rfl
@[simp] theorem latchOrder_llc (s : State) : (s.latchOrder).llc = s.llc := rfl
@[simp] theorem latchOrder_tdu (s : State) : (s.latchOrder).tdu = s.tdu := rfl
@[simp] theorem latchOrder_hli (s : State) : (s.latchOrder).hli = s.hli := rfl
@[simp] theorem latchOrder_pending (s : State) : (s.latchOrder).pending = s.pending := rfl

@[simp] theorem markHead_pc (s : State) (l : Leg) : (s.markHead l).pc = s.pc := rfl
@[simp] theorem markHead_atp (s : State) (l : Leg) : (s.markHead l).atp = s.atp := rfl
@[simp] theorem markHead_scu (s : State) (l : Leg) : (s.markHead l).scu = s.scu := rfl
@[simp] theorem markHead_ssq (s : State) (l : Leg) : (s.markHead l).ssq = s.ssq := rfl
@[simp] theorem markHead_pls (s : State) (l : Leg) : (s.markHead l).pls = s.pls := rfl
@[simp] theorem markHead_ztb (s : State) (l : Leg) : (s.markHead l).ztb = s.ztb := rfl
@[simp] theorem markHead_slm (s : State) (l : Leg) : (s.markHead l).slm = s.slm := rfl
@[simp] theorem markHead_rxu (s : State) (l : Leg) : (s.markHead l).rxu = s.rxu := rfl
@[simp] theorem markHead_llc (s : State) (l : Leg) : (s.markHead l).llc = s.llc := rfl
@[simp] theorem markHead_tdu (s : State) (l : Leg) : (s.markHead l).tdu = s.tdu := rfl
@[simp] theorem markHead_hli (s : State) (l : Leg) : (s.markHead l).hli = s.hli := rfl
@[simp] theorem markHead_pending (s : State) (l : Leg) : (s.markHead l).pending = s.pending := rfl

@[simp] theorem unmarkInUse_pc (s : State) : (s.unmarkInUse).pc = s.pc := rfl
@[simp] theorem unmarkInUse_atp (s : State) : (s.unmarkInUse).atp = s.atp := rfl
@[simp] theorem unmarkInUse_scu (s : State) : (s.unmarkInUse).scu = s.scu := rfl
@[simp] theorem unmarkInUse_ssq (s : State) : (s.unmarkInUse).ssq = s.ssq := rfl
@[simp] theorem unmarkInUse_pls (s : State) : (s.unmarkInUse).pls = s.pls := rfl
@[simp] theorem unmarkInUse_ztb (s : State) : (s.unmarkInUse).ztb = s.ztb := rfl
@[simp] theorem unmarkInUse_slm (s : State) : (s.unmarkInUse).slm = s.slm := rfl
@[simp] theorem unmarkInUse_rxu (s : State) : (s.unmarkInUse).rxu = s.rxu := rfl
@[simp] theorem unmarkInUse_llc (s : State) : (s.unmarkInUse).llc = s.llc := rfl
@[simp] theorem unmarkInUse_tdu (s : State) : (s.unmarkInUse).tdu = s.tdu := rfl
@[simp] theorem unmarkInUse_hli (s : State) : (s.unmarkInUse).hli = s.hli := rfl
@[simp] theorem unmarkInUse_pending (s : State) : (s.unmarkInUse).pending = s.pending := rfl

@[simp] theorem consumeHead_pc (s : State) (l : Leg) : (s.consumeHead l).pc = s.pc := rfl
@[simp] theorem consumeHead_atp (s : State) (l : Leg) : (s.consumeHead l).atp = s.atp := rfl
@[simp] theorem consumeHead_scu (s : State) (l : Leg) : (s.consumeHead l).scu = s.scu := rfl
@[simp] theorem consumeHead_ssq (s : State) (l : Leg) : (s.consumeHead l).ssq = s.ssq := rfl
@[simp] theorem consumeHead_pls (s : State) (l : Leg) : (s.consumeHead l).pls = s.pls := rfl
@[simp] theorem consumeHead_ztb (s : State) (l : Leg) : (s.consumeHead l).ztb = s.ztb := rfl
@[simp] theorem consumeHead_slm (s : State) (l : Leg) : (s.consumeHead l).slm = s.slm := rfl
@[simp] theorem consumeHead_rxu (s : State) (l : Leg) : (s.consumeHead l).rxu = s.rxu := rfl
@[simp] theorem consumeHead_llc (s : State) (l : Leg) : (s.consumeHead l).llc = s.llc := rfl
@[simp] theorem consumeHead_tdu (s : State) (l : Leg) : (s.consumeHead l).tdu = s.tdu := rfl
@[simp] theorem consumeHead_hli (s : State) (l : Leg) : (s.consumeHead l).hli = s.hli := rfl
@[simp] theorem consumeHead_pending (s : State) (l : Leg) : (s.consumeHead l).pending = s.pending := rfl

@[simp] theorem discardHead_pc (s : State) (l : Leg) : (s.discardHead l).pc = s.pc := rfl
@[simp] theorem discardHead_atp (s : State) (l : Leg) : (s.discardHead l).atp = s.atp := rfl
@[simp] theorem discardHead_scu (s : State) (l : Leg) : (s.discardHead l).scu = s.scu := rfl
@[simp] theorem discardHead_ssq (s : State) (l : Leg) : (s.discardHead l).ssq = s.ssq := rfl
@[simp] theorem discardHead_pls (s : State) (l : Leg) : (s.discardHead l).pls = s.pls := rfl
@[simp] theorem discardHead_ztb (s : State) (l : Leg) : (s.discardHead l).ztb = s.ztb := rfl
@[simp] theorem discardHead_slm (s : State) (l : Leg) : (s.discardHead l).slm = s.slm := rfl
@[simp] theorem discardHead_rxu (s : State) (l : Leg) : (s.discardHead l).rxu = s.rxu := rfl
@[simp] theorem discardHead_llc (s : State) (l : Leg) : (s.discardHead l).llc = s.llc := rfl
@[simp] theorem discardHead_tdu (s : State) (l : Leg) : (s.discardHead l).tdu = s.tdu := rfl
@[simp] theorem discardHead_hli (s : State) (l : Leg) : (s.discardHead l).hli = s.hli := rfl
@[simp] theorem discardHead_pending (s : State) (l : Leg) : (s.discardHead l).pending = s.pending := rfl

@[simp] theorem recompute_pc (s : State) : (s.recompute).pc = s.pc := rfl
@[simp] theorem recompute_atp (s : State) : (s.recompute).atp = s.atp := rfl
@[simp] theorem recompute_ssq (s : State) : (s.recompute).ssq = s.ssq := rfl
@[simp] theorem recompute_pls (s : State) : (s.recompute).pls = s.pls := rfl
@[simp] theorem recompute_fhq (s : State) : (s.recompute).fhq = s.fhq := rfl
@[simp] theorem recompute_ztb (s : State) : (s.recompute).ztb = s.ztb := rfl
@[simp] theorem recompute_slm (s : State) : (s.recompute).slm = s.slm := rfl
@[simp] theorem recompute_rxu (s : State) : (s.recompute).rxu = s.rxu := rfl
@[simp] theorem recompute_llc (s : State) : (s.recompute).llc = s.llc := rfl
@[simp] theorem recompute_tdu (s : State) : (s.recompute).tdu = s.tdu := rfl
@[simp] theorem recompute_hli (s : State) : (s.recompute).hli = s.hli := rfl
@[simp] theorem recompute_pending (s : State) : (s.recompute).pending = s.pending := rfl

@[simp] theorem tick_fhq (s : State) : (s.tick).fhq = s.fhq := rfl
@[simp] theorem tick_ztb (s : State) : (s.tick).ztb = s.ztb := rfl
@[simp] theorem tick_hli (s : State) : (s.tick).hli = s.hli := rfl
@[simp] theorem tick_pending (s : State) : (s.tick).pending = s.pending := rfl

/-! ## What they write -/

@[simp] theorem setVerified_verifiedOf_self (s : State) (l : Leg) (v : Bool) : (s.setVerified l v).verifiedOf l = v :=
  PerLeg.get_set_self ..

theorem setVerified_verifiedOf_of_ne (s : State) {k l : Leg} (v : Bool) (h : k ≠ l) :
    (s.setVerified l v).verifiedOf k = s.verifiedOf k :=
  PerLeg.get_set_of_ne _ _ h

@[simp] theorem setVerified_cmdOf (s : State) (k l : Leg) (v : Bool) : (s.setVerified l v).cmdOf k = s.cmdOf k := rfl

@[simp] theorem sendCommand_sent (s : State) (l : Leg) :
    ((s.sendCommand l).link l).sent = some (commandRecord (s.cmdOf l)) := by
  simp [sendCommand, link]

theorem sendCommand_link_of_ne (s : State) {k l : Leg} (h : k ≠ l) : (s.sendCommand l).link k = s.link k :=
  PerLeg.get_modify_of_ne _ _ h

@[simp] theorem recompute_stance (s : State) : s.recompute.scu.stance = s.scu.stance := rfl

@[simp] theorem recompute_sway (s : State) : s.recompute.scu.sway = s.scu.sway := rfl

@[simp] theorem recompute_tipRaised (s : State) : s.recompute.scu.tipRaised = s.scu.tipRaised := rfl

@[simp] theorem recompute_tipStale (s : State) : s.recompute.scu.tipStale = s.scu.tipStale := rfl

@[simp] theorem latchStep_cmd (s : State) : s.latchStep.ssq.cmd = s.ssq.cmd := rfl

@[simp] theorem latchOrder_order (s : State) : s.latchOrder.ssq.order = s.zone.order.walked s.ssq.dir := rfl

@[simp] theorem removeEdges_pending_list (s : State) :
    s.removeEdges.rxu.pending = s.rxu.pending.filter fun e => e.cause.level := rfl

end State

end Sys2Proof.Machine
end

