-- ==== Sys2Proof/Laws/Ops.lean ====
section
/-! SUPPORT. What each shared operation can do, said once: its cases, and the blocks it leaves alone. -/

namespace Sys2Proof.Machine

namespace State

/-! ## Notes -/

/-- R194, R195: posting a note leaves the state, joins the tail, or sets the lost mark. -/
theorem postNote_cases (s : State) (n : Note) :
    s.postNote n = s ∨ s.postNote n = { s with hli.notes := s.hli.notes ++ [n] } ∨
      s.postNote n = { s with hli.lost := true } := by
  unfold postNote
  split
  · exact .inl rfl
  · split
    · split
      · exact .inr (.inl rfl)
      · exact .inr (.inr rfl)
    · exact .inl rfl

/-- A note posted writes the note queue and the lost mark alone. -/
theorem postNote_eq (s : State) (n : Note) : s.postNote n = { s with hli := (s.postNote n).hli } := by
  rcases postNote_cases s n with h | h | h <;> rw [h]

@[simp] theorem postNote_pc (s : State) (n : Note) : (s.postNote n).pc = s.pc := by rw [postNote_eq]
@[simp] theorem postNote_atp (s : State) (n : Note) : (s.postNote n).atp = s.atp := by rw [postNote_eq]
@[simp] theorem postNote_scu (s : State) (n : Note) : (s.postNote n).scu = s.scu := by rw [postNote_eq]
@[simp] theorem postNote_ssq (s : State) (n : Note) : (s.postNote n).ssq = s.ssq := by rw [postNote_eq]
@[simp] theorem postNote_pls (s : State) (n : Note) : (s.postNote n).pls = s.pls := by rw [postNote_eq]
@[simp] theorem postNote_fhq (s : State) (n : Note) : (s.postNote n).fhq = s.fhq := by rw [postNote_eq]
@[simp] theorem postNote_ztb (s : State) (n : Note) : (s.postNote n).ztb = s.ztb := by rw [postNote_eq]
@[simp] theorem postNote_slm (s : State) (n : Note) : (s.postNote n).slm = s.slm := by rw [postNote_eq]
@[simp] theorem postNote_rxu (s : State) (n : Note) : (s.postNote n).rxu = s.rxu := by rw [postNote_eq]
@[simp] theorem postNote_llc (s : State) (n : Note) : (s.postNote n).llc = s.llc := by rw [postNote_eq]
@[simp] theorem postNote_tdu (s : State) (n : Note) : (s.postNote n).tdu = s.tdu := by rw [postNote_eq]
@[simp] theorem postNote_pending (s : State) (n : Note) : (s.postNote n).pending = s.pending := by rw [postNote_eq]

@[simp] theorem postFault_pc (s : State) (c : FaultCode) (l : Option Leg) : (s.postFault c l).pc = s.pc := by simp [postFault]
@[simp] theorem postFault_atp (s : State) (c : FaultCode) (l : Option Leg) : (s.postFault c l).atp = s.atp := by simp [postFault]
@[simp] theorem postFault_scu (s : State) (c : FaultCode) (l : Option Leg) : (s.postFault c l).scu = s.scu := by simp [postFault]
@[simp] theorem postFault_ssq (s : State) (c : FaultCode) (l : Option Leg) : (s.postFault c l).ssq = s.ssq := by simp [postFault]
@[simp] theorem postFault_pls (s : State) (c : FaultCode) (l : Option Leg) : (s.postFault c l).pls = s.pls := by simp [postFault]
@[simp] theorem postFault_fhq (s : State) (c : FaultCode) (l : Option Leg) : (s.postFault c l).fhq = s.fhq := by simp [postFault]
@[simp] theorem postFault_ztb (s : State) (c : FaultCode) (l : Option Leg) : (s.postFault c l).ztb = s.ztb := by simp [postFault]
@[simp] theorem postFault_slm (s : State) (c : FaultCode) (l : Option Leg) : (s.postFault c l).slm = s.slm := by simp [postFault]
@[simp] theorem postFault_rxu (s : State) (c : FaultCode) (l : Option Leg) : (s.postFault c l).rxu = s.rxu := by simp [postFault]
@[simp] theorem postFault_llc (s : State) (c : FaultCode) (l : Option Leg) : (s.postFault c l).llc = s.llc := by simp [postFault]
@[simp] theorem postFault_tdu (s : State) (c : FaultCode) (l : Option Leg) : (s.postFault c l).tdu = s.tdu := by simp [postFault]
@[simp] theorem postFault_pending (s : State) (c : FaultCode) (l : Option Leg) : (s.postFault c l).pending = s.pending := by simp [postFault]

@[simp] theorem postNote_slot (s : State) (n : Note) : (s.postNote n).hli.slot = s.hli.slot := by
  rcases postNote_cases s n with h | h | h <;> rw [h]

@[simp] theorem postNote_input (s : State) (n : Note) : (s.postNote n).hli.input = s.hli.input := by
  rcases postNote_cases s n with h | h | h <;> rw [h]

@[simp] theorem postNote_link (s : State) (n : Note) : (s.postNote n).hli.link = s.hli.link := by
  rcases postNote_cases s n with h | h | h <;> rw [h]

@[simp] theorem postNote_mask (s : State) (n : Note) : (s.postNote n).hli.mask = s.hli.mask := by
  rcases postNote_cases s n with h | h | h <;> rw [h]

@[simp] theorem postNote_resetTaken (s : State) (n : Note) :
    (s.postNote n).hli.resetTaken = s.hli.resetTaken := by
  rcases postNote_cases s n with h | h | h <;> rw [h]

/-! ## Leg links and the pending list -/

/-- R162: a change goes out, or waits for the end of the exchange. -/
theorem handToLink_cases (s : State) (l : Leg) :
    ((s.link l).awaiting = true ∧
      s.handToLink l = { s with llc := s.llc.modify l fun k => { k with sendWaiting := true } }) ∨
    ((s.link l).awaiting = false ∧ s.handToLink l = s.sendCommand l) := by
  unfold handToLink
  split
  · rename_i h; exact .inl ⟨h, rfl⟩
  · rename_i h; exact .inr ⟨by simpa using h, rfl⟩

@[simp] theorem handToLink_pc (s : State) (l : Leg) : (s.handToLink l).pc = s.pc := by unfold handToLink; split <;> rfl
@[simp] theorem handToLink_atp (s : State) (l : Leg) : (s.handToLink l).atp = s.atp := by unfold handToLink; split <;> rfl
@[simp] theorem handToLink_scu (s : State) (l : Leg) : (s.handToLink l).scu = s.scu := by unfold handToLink; split <;> rfl
@[simp] theorem handToLink_ssq (s : State) (l : Leg) : (s.handToLink l).ssq = s.ssq := by unfold handToLink; split <;> rfl
@[simp] theorem handToLink_pls (s : State) (l : Leg) : (s.handToLink l).pls = s.pls := by unfold handToLink; split <;> rfl
@[simp] theorem handToLink_fhq (s : State) (l : Leg) : (s.handToLink l).fhq = s.fhq := by unfold handToLink; split <;> rfl
@[simp] theorem handToLink_ztb (s : State) (l : Leg) : (s.handToLink l).ztb = s.ztb := by unfold handToLink; split <;> rfl
@[simp] theorem handToLink_slm (s : State) (l : Leg) : (s.handToLink l).slm = s.slm := by unfold handToLink; split <;> rfl
@[simp] theorem handToLink_rxu (s : State) (l : Leg) : (s.handToLink l).rxu = s.rxu := by unfold handToLink; split <;> rfl
@[simp] theorem handToLink_tdu (s : State) (l : Leg) : (s.handToLink l).tdu = s.tdu := by unfold handToLink; split <;> rfl
@[simp] theorem handToLink_hli (s : State) (l : Leg) : (s.handToLink l).hli = s.hli := by unfold handToLink; split <;> rfl
@[simp] theorem handToLink_pending (s : State) (l : Leg) : (s.handToLink l).pending = s.pending := by unfold handToLink; split <;> rfl

@[simp] theorem endExchange_pc (s : State) (l : Leg) : (s.endExchange l).pc = s.pc := by unfold endExchange; dsimp only; split <;> rfl
@[simp] theorem endExchange_atp (s : State) (l : Leg) : (s.endExchange l).atp = s.atp := by unfold endExchange; dsimp only; split <;> rfl
@[simp] theorem endExchange_scu (s : State) (l : Leg) : (s.endExchange l).scu = s.scu := by unfold endExchange; dsimp only; split <;> rfl
@[simp] theorem endExchange_ssq (s : State) (l : Leg) : (s.endExchange l).ssq = s.ssq := by unfold endExchange; dsimp only; split <;> rfl
@[simp] theorem endExchange_pls (s : State) (l : Leg) : (s.endExchange l).pls = s.pls := by unfold endExchange; dsimp only; split <;> rfl
@[simp] theorem endExchange_fhq (s : State) (l : Leg) : (s.endExchange l).fhq = s.fhq := by unfold endExchange; dsimp only; split <;> rfl
@[simp] theorem endExchange_ztb (s : State) (l : Leg) : (s.endExchange l).ztb = s.ztb := by unfold endExchange; dsimp only; split <;> rfl
@[simp] theorem endExchange_slm (s : State) (l : Leg) : (s.endExchange l).slm = s.slm := by unfold endExchange; dsimp only; split <;> rfl
@[simp] theorem endExchange_rxu (s : State) (l : Leg) : (s.endExchange l).rxu = s.rxu := by unfold endExchange; dsimp only; split <;> rfl
@[simp] theorem endExchange_tdu (s : State) (l : Leg) : (s.endExchange l).tdu = s.tdu := by unfold endExchange; dsimp only; split <;> rfl
@[simp] theorem endExchange_hli (s : State) (l : Leg) : (s.endExchange l).hli = s.hli := by unfold endExchange; dsimp only; split <;> rfl
@[simp] theorem endExchange_pending (s : State) (l : Leg) : (s.endExchange l).pending = s.pending := by unfold endExchange; dsimp only; split <;> rfl

/-- R138: an entry joins the tail unless it is there. -/
theorem pendAdd_pending_list (s : State) (c : Cause) (l : Leg) :
    (s.pendAdd c l).rxu.pending =
      if ⟨c, l⟩ ∈ s.rxu.pending then s.rxu.pending else s.rxu.pending ++ [⟨c, l⟩] := by
  unfold pendAdd; split <;> rfl

@[simp] theorem pendAdd_pc (s : State) (c : Cause) (l : Leg) : (s.pendAdd c l).pc = s.pc := by unfold pendAdd; split <;> rfl
@[simp] theorem pendAdd_atp (s : State) (c : Cause) (l : Leg) : (s.pendAdd c l).atp = s.atp := by unfold pendAdd; split <;> rfl
@[simp] theorem pendAdd_scu (s : State) (c : Cause) (l : Leg) : (s.pendAdd c l).scu = s.scu := by unfold pendAdd; split <;> rfl
@[simp] theorem pendAdd_ssq (s : State) (c : Cause) (l : Leg) : (s.pendAdd c l).ssq = s.ssq := by unfold pendAdd; split <;> rfl
@[simp] theorem pendAdd_pls (s : State) (c : Cause) (l : Leg) : (s.pendAdd c l).pls = s.pls := by unfold pendAdd; split <;> rfl
@[simp] theorem pendAdd_fhq (s : State) (c : Cause) (l : Leg) : (s.pendAdd c l).fhq = s.fhq := by unfold pendAdd; split <;> rfl
@[simp] theorem pendAdd_ztb (s : State) (c : Cause) (l : Leg) : (s.pendAdd c l).ztb = s.ztb := by unfold pendAdd; split <;> rfl
@[simp] theorem pendAdd_slm (s : State) (c : Cause) (l : Leg) : (s.pendAdd c l).slm = s.slm := by unfold pendAdd; split <;> rfl
@[simp] theorem pendAdd_llc (s : State) (c : Cause) (l : Leg) : (s.pendAdd c l).llc = s.llc := by unfold pendAdd; split <;> rfl
@[simp] theorem pendAdd_tdu (s : State) (c : Cause) (l : Leg) : (s.pendAdd c l).tdu = s.tdu := by unfold pendAdd; split <;> rfl
@[simp] theorem pendAdd_hli (s : State) (c : Cause) (l : Leg) : (s.pendAdd c l).hli = s.hli := by unfold pendAdd; split <;> rfl
@[simp] theorem pendAdd_pending (s : State) (c : Cause) (l : Leg) : (s.pendAdd c l).pending = s.pending := by unfold pendAdd; split <;> rfl

/-! ## Conditions and windows -/

@[simp] theorem endSlip_pc (s : State) (l : Leg) : (s.endSlip l).pc = s.pc := by unfold endSlip; split <;> rfl
@[simp] theorem endSlip_atp (s : State) (l : Leg) : (s.endSlip l).atp = s.atp := by unfold endSlip; split <;> rfl
@[simp] theorem endSlip_scu (s : State) (l : Leg) : (s.endSlip l).scu = s.scu := by unfold endSlip; split <;> rfl
@[simp] theorem endSlip_ssq (s : State) (l : Leg) : (s.endSlip l).ssq = s.ssq := by unfold endSlip; split <;> rfl
@[simp] theorem endSlip_pls (s : State) (l : Leg) : (s.endSlip l).pls = s.pls := by unfold endSlip; split <;> rfl
@[simp] theorem endSlip_fhq (s : State) (l : Leg) : (s.endSlip l).fhq = s.fhq := by unfold endSlip; split <;> rfl
@[simp] theorem endSlip_ztb (s : State) (l : Leg) : (s.endSlip l).ztb = s.ztb := by unfold endSlip; split <;> rfl
@[simp] theorem endSlip_llc (s : State) (l : Leg) : (s.endSlip l).llc = s.llc := by unfold endSlip; split <;> rfl
@[simp] theorem endSlip_tdu (s : State) (l : Leg) : (s.endSlip l).tdu = s.tdu := by unfold endSlip; split <;> rfl
@[simp] theorem endSlip_hli (s : State) (l : Leg) : (s.endSlip l).hli = s.hli := by unfold endSlip; split <;> rfl
@[simp] theorem endSlip_pending (s : State) (l : Leg) : (s.endSlip l).pending = s.pending := by unfold endSlip; split <;> rfl

@[simp] theorem endOverload_pc (s : State) (l : Leg) : (s.endOverload l).pc = s.pc := by unfold endOverload; split <;> rfl
@[simp] theorem endOverload_atp (s : State) (l : Leg) : (s.endOverload l).atp = s.atp := by unfold endOverload; split <;> rfl
@[simp] theorem endOverload_scu (s : State) (l : Leg) : (s.endOverload l).scu = s.scu := by unfold endOverload; split <;> rfl
@[simp] theorem endOverload_ssq (s : State) (l : Leg) : (s.endOverload l).ssq = s.ssq := by unfold endOverload; split <;> rfl
@[simp] theorem endOverload_pls (s : State) (l : Leg) : (s.endOverload l).pls = s.pls := by unfold endOverload; split <;> rfl
@[simp] theorem endOverload_fhq (s : State) (l : Leg) : (s.endOverload l).fhq = s.fhq := by unfold endOverload; split <;> rfl
@[simp] theorem endOverload_ztb (s : State) (l : Leg) : (s.endOverload l).ztb = s.ztb := by unfold endOverload; split <;> rfl
@[simp] theorem endOverload_slm (s : State) (l : Leg) : (s.endOverload l).slm = s.slm := by unfold endOverload; split <;> rfl
@[simp] theorem endOverload_tdu (s : State) (l : Leg) : (s.endOverload l).tdu = s.tdu := by unfold endOverload; split <;> rfl
@[simp] theorem endOverload_hli (s : State) (l : Leg) : (s.endOverload l).hli = s.hli := by unfold endOverload; split <;> rfl
@[simp] theorem endOverload_pending (s : State) (l : Leg) : (s.endOverload l).pending = s.pending := by unfold endOverload; split <;> rfl

@[simp] theorem slmLeave_pc (s : State) (l : Leg) : (s.slmLeave l).pc = s.pc := by simp [slmLeave]
@[simp] theorem slmLeave_atp (s : State) (l : Leg) : (s.slmLeave l).atp = s.atp := by simp [slmLeave]
@[simp] theorem slmLeave_scu (s : State) (l : Leg) : (s.slmLeave l).scu = s.scu := by simp [slmLeave]
@[simp] theorem slmLeave_ssq (s : State) (l : Leg) : (s.slmLeave l).ssq = s.ssq := by simp [slmLeave]
@[simp] theorem slmLeave_pls (s : State) (l : Leg) : (s.slmLeave l).pls = s.pls := by simp [slmLeave]
@[simp] theorem slmLeave_fhq (s : State) (l : Leg) : (s.slmLeave l).fhq = s.fhq := by simp [slmLeave]
@[simp] theorem slmLeave_ztb (s : State) (l : Leg) : (s.slmLeave l).ztb = s.ztb := by simp [slmLeave]
@[simp] theorem slmLeave_llc (s : State) (l : Leg) : (s.slmLeave l).llc = s.llc := by simp [slmLeave]
@[simp] theorem slmLeave_tdu (s : State) (l : Leg) : (s.slmLeave l).tdu = s.tdu := by simp [slmLeave]
@[simp] theorem slmLeave_hli (s : State) (l : Leg) : (s.slmLeave l).hli = s.hli := by simp [slmLeave]
@[simp] theorem slmLeave_pending (s : State) (l : Leg) : (s.slmLeave l).pending = s.pending := by simp [slmLeave]

@[simp] theorem endAllSlip_pc (s : State) : (s.endAllSlip).pc = s.pc := by simp [endAllSlip, Leg.all]
@[simp] theorem endAllSlip_atp (s : State) : (s.endAllSlip).atp = s.atp := by simp [endAllSlip, Leg.all]
@[simp] theorem endAllSlip_scu (s : State) : (s.endAllSlip).scu = s.scu := by simp [endAllSlip, Leg.all]
@[simp] theorem endAllSlip_ssq (s : State) : (s.endAllSlip).ssq = s.ssq := by simp [endAllSlip, Leg.all]
@[simp] theorem endAllSlip_pls (s : State) : (s.endAllSlip).pls = s.pls := by simp [endAllSlip, Leg.all]
@[simp] theorem endAllSlip_fhq (s : State) : (s.endAllSlip).fhq = s.fhq := by simp [endAllSlip, Leg.all]
@[simp] theorem endAllSlip_ztb (s : State) : (s.endAllSlip).ztb = s.ztb := by simp [endAllSlip, Leg.all]
@[simp] theorem endAllSlip_llc (s : State) : (s.endAllSlip).llc = s.llc := by simp [endAllSlip, Leg.all]
@[simp] theorem endAllSlip_tdu (s : State) : (s.endAllSlip).tdu = s.tdu := by simp [endAllSlip, Leg.all]
@[simp] theorem endAllSlip_hli (s : State) : (s.endAllSlip).hli = s.hli := by simp [endAllSlip, Leg.all]
@[simp] theorem endAllSlip_pending (s : State) : (s.endAllSlip).pending = s.pending := by simp [endAllSlip, Leg.all]

/-- R133: a condition that is told gone leaves the list without its entry. -/
theorem tellGone_not_mem (s : State) (c : Cause) (l : Leg) : ⟨c, l⟩ ∉ (s.tellGone c l).rxu.pending := by
  simp [tellGone]

/-! ## Leg commands -/

@[simp] theorem modeChanged_pc (s : State) (l : Leg) (m : LegMode) : (s.modeChanged l m).pc = s.pc := by unfold modeChanged; cases m <;> simp
@[simp] theorem modeChanged_atp (s : State) (l : Leg) (m : LegMode) : (s.modeChanged l m).atp = s.atp := by unfold modeChanged; cases m <;> simp
@[simp] theorem modeChanged_scu (s : State) (l : Leg) (m : LegMode) : (s.modeChanged l m).scu = s.scu := by unfold modeChanged; cases m <;> simp
@[simp] theorem modeChanged_pls (s : State) (l : Leg) (m : LegMode) : (s.modeChanged l m).pls = s.pls := by unfold modeChanged; cases m <;> simp
@[simp] theorem modeChanged_fhq (s : State) (l : Leg) (m : LegMode) : (s.modeChanged l m).fhq = s.fhq := by unfold modeChanged; cases m <;> simp
@[simp] theorem modeChanged_ztb (s : State) (l : Leg) (m : LegMode) : (s.modeChanged l m).ztb = s.ztb := by unfold modeChanged; cases m <;> simp
@[simp] theorem modeChanged_slm (s : State) (l : Leg) (m : LegMode) : (s.modeChanged l m).slm = s.slm := by unfold modeChanged; cases m <;> simp
@[simp] theorem modeChanged_tdu (s : State) (l : Leg) (m : LegMode) : (s.modeChanged l m).tdu = s.tdu := by unfold modeChanged; cases m <;> simp
@[simp] theorem modeChanged_hli (s : State) (l : Leg) (m : LegMode) : (s.modeChanged l m).hli = s.hli := by unfold modeChanged; cases m <;> simp
@[simp] theorem modeChanged_pending (s : State) (l : Leg) (m : LegMode) : (s.modeChanged l m).pending = s.pending := by unfold modeChanged; cases m <;> simp

@[simp] theorem setCmd_pc (s : State) (l : Leg) (m : LegMode) (p : Point) (c : Int) : (s.setCmd l m p c).pc = s.pc := by
  unfold setCmd; dsimp only; split_ifs <;> simp
@[simp] theorem setCmd_atp (s : State) (l : Leg) (m : LegMode) (p : Point) (c : Int) : (s.setCmd l m p c).atp = s.atp := by
  unfold setCmd; dsimp only; split_ifs <;> simp
@[simp] theorem setCmd_scu (s : State) (l : Leg) (m : LegMode) (p : Point) (c : Int) : (s.setCmd l m p c).scu = s.scu := by
  unfold setCmd; dsimp only; split_ifs <;> simp
@[simp] theorem setCmd_pls (s : State) (l : Leg) (m : LegMode) (p : Point) (c : Int) : (s.setCmd l m p c).pls = s.pls := by
  unfold setCmd; dsimp only; split_ifs <;> simp
@[simp] theorem setCmd_fhq (s : State) (l : Leg) (m : LegMode) (p : Point) (c : Int) : (s.setCmd l m p c).fhq = s.fhq := by
  unfold setCmd; dsimp only; split_ifs <;> simp
@[simp] theorem setCmd_ztb (s : State) (l : Leg) (m : LegMode) (p : Point) (c : Int) : (s.setCmd l m p c).ztb = s.ztb := by
  unfold setCmd; dsimp only; split_ifs <;> simp
@[simp] theorem setCmd_tdu (s : State) (l : Leg) (m : LegMode) (p : Point) (c : Int) : (s.setCmd l m p c).tdu = s.tdu := by
  unfold setCmd; dsimp only; split_ifs <;> simp
@[simp] theorem setCmd_hli (s : State) (l : Leg) (m : LegMode) (p : Point) (c : Int) : (s.setCmd l m p c).hli = s.hli := by
  unfold setCmd; dsimp only; split_ifs <;> simp
@[simp] theorem setCmd_pending (s : State) (l : Leg) (m : LegMode) (p : Point) (c : Int) : (s.setCmd l m p c).pending = s.pending := by
  unfold setCmd; dsimp only; split_ifs <;> simp

@[simp] theorem setMode_pc (s : State) (l : Leg) (m : LegMode) : (s.setMode l m).pc = s.pc := by simp [setMode]
@[simp] theorem setMode_atp (s : State) (l : Leg) (m : LegMode) : (s.setMode l m).atp = s.atp := by simp [setMode]
@[simp] theorem setMode_scu (s : State) (l : Leg) (m : LegMode) : (s.setMode l m).scu = s.scu := by simp [setMode]
@[simp] theorem setMode_pls (s : State) (l : Leg) (m : LegMode) : (s.setMode l m).pls = s.pls := by simp [setMode]
@[simp] theorem setMode_fhq (s : State) (l : Leg) (m : LegMode) : (s.setMode l m).fhq = s.fhq := by simp [setMode]
@[simp] theorem setMode_ztb (s : State) (l : Leg) (m : LegMode) : (s.setMode l m).ztb = s.ztb := by simp [setMode]
@[simp] theorem setMode_tdu (s : State) (l : Leg) (m : LegMode) : (s.setMode l m).tdu = s.tdu := by simp [setMode]
@[simp] theorem setMode_hli (s : State) (l : Leg) (m : LegMode) : (s.setMode l m).hli = s.hli := by simp [setMode]
@[simp] theorem setMode_pending (s : State) (l : Leg) (m : LegMode) : (s.setMode l m).pending = s.pending := by simp [setMode]

@[simp] theorem setTarget_pc (s : State) (l : Leg) (p : Point) : (s.setTarget l p).pc = s.pc := by simp [setTarget]
@[simp] theorem setTarget_atp (s : State) (l : Leg) (p : Point) : (s.setTarget l p).atp = s.atp := by simp [setTarget]
@[simp] theorem setTarget_scu (s : State) (l : Leg) (p : Point) : (s.setTarget l p).scu = s.scu := by simp [setTarget]
@[simp] theorem setTarget_pls (s : State) (l : Leg) (p : Point) : (s.setTarget l p).pls = s.pls := by simp [setTarget]
@[simp] theorem setTarget_fhq (s : State) (l : Leg) (p : Point) : (s.setTarget l p).fhq = s.fhq := by simp [setTarget]
@[simp] theorem setTarget_ztb (s : State) (l : Leg) (p : Point) : (s.setTarget l p).ztb = s.ztb := by simp [setTarget]
@[simp] theorem setTarget_tdu (s : State) (l : Leg) (p : Point) : (s.setTarget l p).tdu = s.tdu := by simp [setTarget]
@[simp] theorem setTarget_hli (s : State) (l : Leg) (p : Point) : (s.setTarget l p).hli = s.hli := by simp [setTarget]
@[simp] theorem setTarget_pending (s : State) (l : Leg) (p : Point) : (s.setTarget l p).pending = s.pending := by simp [setTarget]

@[simp] theorem airCmd_pc (s : State) (l : Leg) (m : LegMode) (p : Point) (c : Int) : (s.airCmd l m p c).pc = s.pc := by
  unfold airCmd; split <;> simp
@[simp] theorem airCmd_atp (s : State) (l : Leg) (m : LegMode) (p : Point) (c : Int) : (s.airCmd l m p c).atp = s.atp := by
  unfold airCmd; split <;> simp
@[simp] theorem airCmd_scu (s : State) (l : Leg) (m : LegMode) (p : Point) (c : Int) : (s.airCmd l m p c).scu = s.scu := by
  unfold airCmd; split <;> simp
@[simp] theorem airCmd_pls (s : State) (l : Leg) (m : LegMode) (p : Point) (c : Int) : (s.airCmd l m p c).pls = s.pls := by
  unfold airCmd; split <;> simp
@[simp] theorem airCmd_fhq (s : State) (l : Leg) (m : LegMode) (p : Point) (c : Int) : (s.airCmd l m p c).fhq = s.fhq := by
  unfold airCmd; split <;> simp
@[simp] theorem airCmd_ztb (s : State) (l : Leg) (m : LegMode) (p : Point) (c : Int) : (s.airCmd l m p c).ztb = s.ztb := by
  unfold airCmd; split <;> simp
@[simp] theorem airCmd_tdu (s : State) (l : Leg) (m : LegMode) (p : Point) (c : Int) : (s.airCmd l m p c).tdu = s.tdu := by
  unfold airCmd; split <;> simp
@[simp] theorem airCmd_hli (s : State) (l : Leg) (m : LegMode) (p : Point) (c : Int) : (s.airCmd l m p c).hli = s.hli := by
  unfold airCmd; split <;> simp
@[simp] theorem airCmd_pending (s : State) (l : Leg) (m : LegMode) (p : Point) (c : Int) : (s.airCmd l m p c).pending = s.pending := by
  unfold airCmd; split <;> simp

@[simp] theorem modeChanged_cmd (s : State) (l : Leg) (m : LegMode) : (s.modeChanged l m).ssq.cmd = s.ssq.cmd := by
  unfold modeChanged; cases m <;> simp [setVerified]

/-- R45: the command of the leg, its target clamped. -/
@[simp] theorem setCmd_cmdOf_self (s : State) (l : Leg) (m : LegMode) (p : Point) (c : Int) :
    (s.setCmd l m p c).cmdOf l = { mode := m, target := clampPoint p, clearance := c } := by
  unfold setCmd; dsimp only; split_ifs <;> simp_all [cmdOf]

/-- R45: no other leg's command changes. -/
theorem setCmd_cmdOf_of_ne (s : State) {k l : Leg} (m : LegMode) (p : Point) (c : Int) (h : k ≠ l) :
    (s.setCmd l m p c).cmdOf k = s.cmdOf k := by
  unfold setCmd; dsimp only; split_ifs <;> simp_all [cmdOf, PerLeg.get_set_of_ne]

/-- R46: a leg is commanded into the air, or the request is not carried out. -/
theorem airCmd_cases (s : State) (l : Leg) (m : LegMode) (p : Point) (c : Int) :
    (s.otherInAir l = true ∧ s.airCmd l m p c = s) ∨
      (s.otherInAir l = false ∧ s.airCmd l m p c = s.setCmd l m p c) := by
  unfold airCmd
  split
  · rename_i h; exact .inl ⟨h, rfl⟩
  · rename_i h; exact .inr ⟨by simpa using h, rfl⟩

@[simp] theorem moveStance_pc (s : State) (f : Point → Point) : (s.moveStance f).pc = s.pc := by
  simp only [moveStance, Leg.all, List.foldl_cons, List.foldl_nil]; split_ifs <;> simp
@[simp] theorem moveStance_atp (s : State) (f : Point → Point) : (s.moveStance f).atp = s.atp := by
  simp only [moveStance, Leg.all, List.foldl_cons, List.foldl_nil]; split_ifs <;> simp
@[simp] theorem moveStance_scu (s : State) (f : Point → Point) : (s.moveStance f).scu = s.scu := by
  simp only [moveStance, Leg.all, List.foldl_cons, List.foldl_nil]; split_ifs <;> simp
@[simp] theorem moveStance_pls (s : State) (f : Point → Point) : (s.moveStance f).pls = s.pls := by
  simp only [moveStance, Leg.all, List.foldl_cons, List.foldl_nil]; split_ifs <;> simp
@[simp] theorem moveStance_fhq (s : State) (f : Point → Point) : (s.moveStance f).fhq = s.fhq := by
  simp only [moveStance, Leg.all, List.foldl_cons, List.foldl_nil]; split_ifs <;> simp
@[simp] theorem moveStance_ztb (s : State) (f : Point → Point) : (s.moveStance f).ztb = s.ztb := by
  simp only [moveStance, Leg.all, List.foldl_cons, List.foldl_nil]; split_ifs <;> simp
@[simp] theorem moveStance_tdu (s : State) (f : Point → Point) : (s.moveStance f).tdu = s.tdu := by
  simp only [moveStance, Leg.all, List.foldl_cons, List.foldl_nil]; split_ifs <;> simp
@[simp] theorem moveStance_hli (s : State) (f : Point → Point) : (s.moveStance f).hli = s.hli := by
  simp only [moveStance, Leg.all, List.foldl_cons, List.foldl_nil]; split_ifs <;> simp
@[simp] theorem moveStance_pending (s : State) (f : Point → Point) : (s.moveStance f).pending = s.pending := by
  simp only [moveStance, Leg.all, List.foldl_cons, List.foldl_nil]; split_ifs <;> simp

/-! ## Body state, zones, levels -/

/-- R5: the body state changes where the table allows it, and nowhere else. -/
theorem setBody_body (s : State) (b : BodyState) (r : BodyReason) :
    (s.setBody b r).pc.body = if s.pc.body.mayBecome b then b else s.pc.body := by
  unfold setBody; dsimp only; split_ifs <;> simp

@[simp] theorem setBody_atp (s : State) (b : BodyState) (r : BodyReason) : (s.setBody b r).atp = s.atp := by
  unfold setBody; dsimp only; split_ifs <;> simp
@[simp] theorem setBody_ssq (s : State) (b : BodyState) (r : BodyReason) : (s.setBody b r).ssq = s.ssq := by
  unfold setBody; dsimp only; split_ifs <;> simp
@[simp] theorem setBody_pls (s : State) (b : BodyState) (r : BodyReason) : (s.setBody b r).pls = s.pls := by
  unfold setBody; dsimp only; split_ifs <;> simp
@[simp] theorem setBody_fhq (s : State) (b : BodyState) (r : BodyReason) : (s.setBody b r).fhq = s.fhq := by
  unfold setBody; dsimp only; split_ifs <;> simp
@[simp] theorem setBody_ztb (s : State) (b : BodyState) (r : BodyReason) : (s.setBody b r).ztb = s.ztb := by
  unfold setBody; dsimp only; split_ifs <;> simp
@[simp] theorem setBody_llc (s : State) (b : BodyState) (r : BodyReason) : (s.setBody b r).llc = s.llc := by
  unfold setBody; dsimp only; split_ifs <;> simp
@[simp] theorem setBody_tdu (s : State) (b : BodyState) (r : BodyReason) : (s.setBody b r).tdu = s.tdu := by
  unfold setBody; dsimp only; split_ifs <;> simp
@[simp] theorem setBody_pending (s : State) (b : BodyState) (r : BodyReason) : (s.setBody b r).pending = s.pending := by
  unfold setBody; dsimp only; split_ifs <;> simp

/-- R5: the Posture Controller's other state is left alone. -/
theorem setBody_pc (s : State) (b : BodyState) (r : BodyReason) :
    (s.setBody b r).pc = { s.pc with body := (s.setBody b r).pc.body } := by
  unfold setBody; dsimp only; split_ifs <;> simp

/-- R115: the index in force is what the lookup finds. -/
theorem zoneLookup_inForce (s : State) (r : ZoneReason) :
    (s.zoneLookup r).ztb.inForce = lookupIn s.ztb.entries s.ssq.odometer := by
  unfold zoneLookup; dsimp only; split
  · exact (‹_ = _›).symm
  · simp

@[simp] theorem zoneLookup_entries (s : State) (r : ZoneReason) :
    (s.zoneLookup r).ztb.entries = s.ztb.entries := by
  unfold zoneLookup; dsimp only; split <;> simp

@[simp] theorem zoneLookup_pc (s : State) (r : ZoneReason) : (s.zoneLookup r).pc = s.pc := by
  unfold zoneLookup; dsimp only; split <;> simp
@[simp] theorem zoneLookup_atp (s : State) (r : ZoneReason) : (s.zoneLookup r).atp = s.atp := by
  unfold zoneLookup; dsimp only; split <;> simp
@[simp] theorem zoneLookup_scu (s : State) (r : ZoneReason) : (s.zoneLookup r).scu = s.scu := by
  unfold zoneLookup; dsimp only; split <;> simp
@[simp] theorem zoneLookup_ssq (s : State) (r : ZoneReason) : (s.zoneLookup r).ssq = s.ssq := by
  unfold zoneLookup; dsimp only; split <;> simp
@[simp] theorem zoneLookup_pls (s : State) (r : ZoneReason) : (s.zoneLookup r).pls = s.pls := by
  unfold zoneLookup; dsimp only; split <;> simp
@[simp] theorem zoneLookup_fhq (s : State) (r : ZoneReason) : (s.zoneLookup r).fhq = s.fhq := by
  unfold zoneLookup; dsimp only; split <;> simp
@[simp] theorem zoneLookup_slm (s : State) (r : ZoneReason) : (s.zoneLookup r).slm = s.slm := by
  unfold zoneLookup; dsimp only; split <;> simp
@[simp] theorem zoneLookup_rxu (s : State) (r : ZoneReason) : (s.zoneLookup r).rxu = s.rxu := by
  unfold zoneLookup; dsimp only; split <;> simp
@[simp] theorem zoneLookup_llc (s : State) (r : ZoneReason) : (s.zoneLookup r).llc = s.llc := by
  unfold zoneLookup; dsimp only; split <;> simp
@[simp] theorem zoneLookup_tdu (s : State) (r : ZoneReason) : (s.zoneLookup r).tdu = s.tdu := by
  unfold zoneLookup; dsimp only; split <;> simp
@[simp] theorem zoneLookup_pending (s : State) (r : ZoneReason) : (s.zoneLookup r).pending = s.pending := by
  unfold zoneLookup; dsimp only; split <;> simp

@[simp] theorem reformLevel_pc (s : State) (r : HeatReason) : (s.reformLevel r).pc = s.pc := by
  unfold reformLevel; dsimp only; split <;> simp
@[simp] theorem reformLevel_atp (s : State) (r : HeatReason) : (s.reformLevel r).atp = s.atp := by
  unfold reformLevel; dsimp only; split <;> simp
@[simp] theorem reformLevel_scu (s : State) (r : HeatReason) : (s.reformLevel r).scu = s.scu := by
  unfold reformLevel; dsimp only; split <;> simp
@[simp] theorem reformLevel_ssq (s : State) (r : HeatReason) : (s.reformLevel r).ssq = s.ssq := by
  unfold reformLevel; dsimp only; split <;> simp
@[simp] theorem reformLevel_pls (s : State) (r : HeatReason) : (s.reformLevel r).pls = s.pls := by
  unfold reformLevel; dsimp only; split <;> simp
@[simp] theorem reformLevel_fhq (s : State) (r : HeatReason) : (s.reformLevel r).fhq = s.fhq := by
  unfold reformLevel; dsimp only; split <;> simp
@[simp] theorem reformLevel_ztb (s : State) (r : HeatReason) : (s.reformLevel r).ztb = s.ztb := by
  unfold reformLevel; dsimp only; split <;> simp
@[simp] theorem reformLevel_slm (s : State) (r : HeatReason) : (s.reformLevel r).slm = s.slm := by
  unfold reformLevel; dsimp only; split <;> simp
@[simp] theorem reformLevel_rxu (s : State) (r : HeatReason) : (s.reformLevel r).rxu = s.rxu := by
  unfold reformLevel; dsimp only; split <;> simp
@[simp] theorem reformLevel_llc (s : State) (r : HeatReason) : (s.reformLevel r).llc = s.llc := by
  unfold reformLevel; dsimp only; split <;> simp
@[simp] theorem reformLevel_pending (s : State) (r : HeatReason) : (s.reformLevel r).pending = s.pending := by
  unfold reformLevel; dsimp only; split <;> simp

/-- R181: the body level is the one its legs and external hot give. -/
theorem reformLevel_body (s : State) (r : HeatReason) : (s.reformLevel r).tdu.body = s.bodyLevel := by
  unfold reformLevel; dsimp only; split
  · exact (‹_ = _›).symm
  · simp

@[simp] theorem reformLevel_legs (s : State) (r : HeatReason) : (s.reformLevel r).tdu.legs = s.tdu.legs := by
  unfold reformLevel; dsimp only; split <;> simp

@[simp] theorem setLevel_pc (s : State) (l : Leg) (n : Nat) : (s.setLevel l n).pc = s.pc := by simp [setLevel]
@[simp] theorem setLevel_atp (s : State) (l : Leg) (n : Nat) : (s.setLevel l n).atp = s.atp := by simp [setLevel]
@[simp] theorem setLevel_scu (s : State) (l : Leg) (n : Nat) : (s.setLevel l n).scu = s.scu := by simp [setLevel]
@[simp] theorem setLevel_ssq (s : State) (l : Leg) (n : Nat) : (s.setLevel l n).ssq = s.ssq := by simp [setLevel]
@[simp] theorem setLevel_pls (s : State) (l : Leg) (n : Nat) : (s.setLevel l n).pls = s.pls := by simp [setLevel]
@[simp] theorem setLevel_fhq (s : State) (l : Leg) (n : Nat) : (s.setLevel l n).fhq = s.fhq := by simp [setLevel]
@[simp] theorem setLevel_ztb (s : State) (l : Leg) (n : Nat) : (s.setLevel l n).ztb = s.ztb := by simp [setLevel]
@[simp] theorem setLevel_slm (s : State) (l : Leg) (n : Nat) : (s.setLevel l n).slm = s.slm := by simp [setLevel]
@[simp] theorem setLevel_rxu (s : State) (l : Leg) (n : Nat) : (s.setLevel l n).rxu = s.rxu := by simp [setLevel]
@[simp] theorem setLevel_llc (s : State) (l : Leg) (n : Nat) : (s.setLevel l n).llc = s.llc := by simp [setLevel]
@[simp] theorem setLevel_pending (s : State) (l : Leg) (n : Nat) : (s.setLevel l n).pending = s.pending := by simp [setLevel]

@[simp] theorem levelFall_pc (s : State) (l : Leg) : (s.levelFall l).pc = s.pc := by
  unfold levelFall; dsimp only; repeat' split
  all_goals simp
@[simp] theorem levelFall_atp (s : State) (l : Leg) : (s.levelFall l).atp = s.atp := by
  unfold levelFall; dsimp only; repeat' split
  all_goals simp
@[simp] theorem levelFall_scu (s : State) (l : Leg) : (s.levelFall l).scu = s.scu := by
  unfold levelFall; dsimp only; repeat' split
  all_goals simp
@[simp] theorem levelFall_ssq (s : State) (l : Leg) : (s.levelFall l).ssq = s.ssq := by
  unfold levelFall; dsimp only; repeat' split
  all_goals simp
@[simp] theorem levelFall_pls (s : State) (l : Leg) : (s.levelFall l).pls = s.pls := by
  unfold levelFall; dsimp only; repeat' split
  all_goals simp
@[simp] theorem levelFall_fhq (s : State) (l : Leg) : (s.levelFall l).fhq = s.fhq := by
  unfold levelFall; dsimp only; repeat' split
  all_goals simp
@[simp] theorem levelFall_ztb (s : State) (l : Leg) : (s.levelFall l).ztb = s.ztb := by
  unfold levelFall; dsimp only; repeat' split
  all_goals simp
@[simp] theorem levelFall_slm (s : State) (l : Leg) : (s.levelFall l).slm = s.slm := by
  unfold levelFall; dsimp only; repeat' split
  all_goals simp
@[simp] theorem levelFall_rxu (s : State) (l : Leg) : (s.levelFall l).rxu = s.rxu := by
  unfold levelFall; dsimp only; repeat' split
  all_goals simp
@[simp] theorem levelFall_llc (s : State) (l : Leg) : (s.levelFall l).llc = s.llc := by
  unfold levelFall; dsimp only; repeat' split
  all_goals simp
@[simp] theorem levelFall_pending (s : State) (l : Leg) : (s.levelFall l).pending = s.pending := by
  unfold levelFall; dsimp only; repeat' split
  all_goals simp

@[simp] theorem thermalReport_pc (s : State) (l : Leg) (t : Int) : (s.thermalReport l t).pc = s.pc := by
  unfold thermalReport; dsimp only; split <;> simp
@[simp] theorem thermalReport_atp (s : State) (l : Leg) (t : Int) : (s.thermalReport l t).atp = s.atp := by
  unfold thermalReport; dsimp only; split <;> simp
@[simp] theorem thermalReport_scu (s : State) (l : Leg) (t : Int) : (s.thermalReport l t).scu = s.scu := by
  unfold thermalReport; dsimp only; split <;> simp
@[simp] theorem thermalReport_ssq (s : State) (l : Leg) (t : Int) : (s.thermalReport l t).ssq = s.ssq := by
  unfold thermalReport; dsimp only; split <;> simp
@[simp] theorem thermalReport_pls (s : State) (l : Leg) (t : Int) : (s.thermalReport l t).pls = s.pls := by
  unfold thermalReport; dsimp only; split <;> simp
@[simp] theorem thermalReport_fhq (s : State) (l : Leg) (t : Int) : (s.thermalReport l t).fhq = s.fhq := by
  unfold thermalReport; dsimp only; split <;> simp
@[simp] theorem thermalReport_ztb (s : State) (l : Leg) (t : Int) : (s.thermalReport l t).ztb = s.ztb := by
  unfold thermalReport; dsimp only; split <;> simp
@[simp] theorem thermalReport_slm (s : State) (l : Leg) (t : Int) : (s.thermalReport l t).slm = s.slm := by
  unfold thermalReport; dsimp only; split <;> simp
@[simp] theorem thermalReport_rxu (s : State) (l : Leg) (t : Int) : (s.thermalReport l t).rxu = s.rxu := by
  unfold thermalReport; dsimp only; split <;> simp
@[simp] theorem thermalReport_llc (s : State) (l : Leg) (t : Int) : (s.thermalReport l t).llc = s.llc := by
  unfold thermalReport; dsimp only; split <;> simp
@[simp] theorem thermalReport_pending (s : State) (l : Leg) (t : Int) : (s.thermalReport l t).pending = s.pending := by
  unfold thermalReport; dsimp only; split <;> simp

/-! ## TIP and the stance set -/

/-- R40: what a test of the TIP condition does. -/
theorem tipTestWith_cases (raise : State → State) (s : State) :
    (s.tipTested = false ∧ s.tipTestWith raise = { s with scu.tipRaised := false }) ∨
    (s.tipTested = true ∧ s.tipHolds = false ∧
      s.tipTestWith raise = { s with scu.tipCondition := false, scu.tipRaised := false }) ∨
    (s.tipTested = true ∧ s.tipHolds = true ∧ s.scu.tipRaised = true ∧
      s.tipTestWith raise = { s with scu.tipCondition := true }) ∨
    (s.tipTested = true ∧ s.tipHolds = true ∧ s.scu.tipRaised = false ∧
      s.tipTestWith raise = raise { s with scu.tipCondition := true, scu.tipRaised := true }) := by
  unfold tipTestWith
  split_ifs with h₁ h₂ h₃
  · exact .inr (.inr (.inl ⟨h₁, h₂, h₃, rfl⟩))
  · exact .inr (.inr (.inr ⟨h₁, h₂, by simpa using h₃, rfl⟩))
  · exact .inr (.inl ⟨h₁, by simpa using h₂, rfl⟩)
  · exact .inl ⟨by simpa using h₁, rfl⟩

/-- R27: where the four conditions give the set held, nothing is done. -/
theorem stanceUpdateWith_of_current (test : State → State) (s : State) (h : s.stanceDerived = s.scu.stance) :
    s.stanceUpdateWith test = s := by
  simp [stanceUpdateWith, h]

/-- R27: else the set is replaced, the windows of the legs that left are emptied, and the SCU recomputes. -/
theorem stanceUpdateWith_of_stale (test : State → State) (s : State) (h : s.stanceDerived ≠ s.scu.stance) :
    s.stanceUpdateWith test =
      test ((Leg.all.filter fun l => s.inStance l && !s.stanceDerived.get l).foldl slmLeave
        { s with scu.stance := s.stanceDerived }).recompute := by
  simp [stanceUpdateWith, h]

/-- R27: the derived set is a function of the commands, the flags and the links. -/
theorem stanceDerived_congr {s t : State} (hc : t.ssq.cmd = s.ssq.cmd) (hv : t.ssq.verified = s.ssq.verified)
    (hl : t.llc = s.llc) : t.stanceDerived = s.stanceDerived := by
  simp [stanceDerived, modeOf, cmdOf, verifiedOf, linkOk, admitted, link, hc, hv, hl]

/-! ## Reflexes -/

@[simp] theorem settleReflex_running (n : Nat) (s : State) : settleReflex n s .running = s := by
  cases n <;> rfl

@[simp] theorem settle_running (s : State) : s.settle .running = s := settleReflex_running ..

/-- R137: what becomes of a maskable cause. -/
theorem raiseCause_cases (s : State) (c : Cause) (l : Leg) :
    ((s.pc.body.standing = false ∨ s.admitted l = false) ∧ s.raiseCause c l = s.dropCause c l) ∨
    (s.pc.body.standing = true ∧ s.admitted l = true ∧ s.takesAtOnce l = false ∧ s.raiseCause c l = s.pendAdd c l) ∨
    (s.takesAtOnce l = true ∧ s.raiseCause c l = s.take c l) := by
  unfold raiseCause takesAtOnce
  cases hb : s.pc.body.standing <;> cases ha : s.admitted l <;> cases hp : s.pc.protect <;>
    cases hr : s.rxu.re1 <;> cases hc : s.rxu.crouch <;> simp

/-! ## Placements -/

/-- R81, R82: an exhausted leg stays as it is in LOWER; out of RESWING it is put into PLACING, unless R46 forbids. -/
theorem leaveInPlacing_cases (s : State) (l : Leg) :
    (s.pls.sub = .lower ∨ s.otherInAir l = true) ∧ s.leaveInPlacing l = s ∨
      (s.pls.sub = .reswing ∧ s.otherInAir l = false) ∧
        s.leaveInPlacing l = s.setCmd l .placing s.pls.attemptTarget (s.cmdOf l).clearance := by
  unfold leaveInPlacing
  cases hs : s.pls.sub
  · exact .inl ⟨.inl rfl, rfl⟩
  · rcases airCmd_cases s l .placing s.pls.attemptTarget (s.cmdOf l).clearance with ⟨h, e⟩ | ⟨h, e⟩
    · exact .inl ⟨.inr h, e⟩
    · exact .inr ⟨⟨rfl, h⟩, e⟩

@[simp] theorem leaveInPlacing_pc (s : State) (l : Leg) : (s.leaveInPlacing l).pc = s.pc := by
  unfold leaveInPlacing; split <;> simp
@[simp] theorem leaveInPlacing_atp (s : State) (l : Leg) : (s.leaveInPlacing l).atp = s.atp := by
  unfold leaveInPlacing; split <;> simp
@[simp] theorem leaveInPlacing_scu (s : State) (l : Leg) : (s.leaveInPlacing l).scu = s.scu := by
  unfold leaveInPlacing; split <;> simp
@[simp] theorem leaveInPlacing_pls (s : State) (l : Leg) : (s.leaveInPlacing l).pls = s.pls := by
  unfold leaveInPlacing; split <;> simp
@[simp] theorem leaveInPlacing_fhq (s : State) (l : Leg) : (s.leaveInPlacing l).fhq = s.fhq := by
  unfold leaveInPlacing; split <;> simp
@[simp] theorem leaveInPlacing_ztb (s : State) (l : Leg) : (s.leaveInPlacing l).ztb = s.ztb := by
  unfold leaveInPlacing; split <;> simp
@[simp] theorem leaveInPlacing_tdu (s : State) (l : Leg) : (s.leaveInPlacing l).tdu = s.tdu := by
  unfold leaveInPlacing; split <;> simp
@[simp] theorem leaveInPlacing_hli (s : State) (l : Leg) : (s.leaveInPlacing l).hli = s.hli := by
  unfold leaveInPlacing; split <;> simp
@[simp] theorem leaveInPlacing_pending (s : State) (l : Leg) : (s.leaveInPlacing l).pending = s.pending := by
  unfold leaveInPlacing; split <;> simp

end State

/-! ## Readouts of reflexes -/

@[simp] theorem Running.shown_kind (r : Running) : r.shown.kind = r.kind := rfl
@[simp] theorem Running.shown_trigger (r : Running) : r.shown.trigger = r.trigger := rfl
@[simp] theorem Running.shown_leg (r : Running) : r.shown.leg = r.leg := rfl
@[simp] theorem Running.shown_param (r : Running) : r.shown.param = r.param := rfl
@[simp] theorem Running.shown_retract (r : Running) : r.shown.retract = r.retract := rfl
@[simp] theorem Running.shown_stage (r : Running) : r.shown.stage = r.stage := rfl

end Sys2Proof.Machine
end

