-- ==== Sys2Proof/Laws/PerInstr.lean ====
section
/-! SUPPORT. What holds of every command as syntax, one lemma for each constructor. -/

namespace Sys2Proof.Laws.OperandsSpelled

/-- The bytes of payload in which the host spells a message's operands (11, Frames; R193), and for a complete
frame the length its second byte gives. A command that no host frame carries has none. -/
def payloadLength : Instr → Nat
  | .powerUpReset => 0
  | .warmReset => 0
  | .lowRunMeasured _ => 0
  | .hostLineBreak => 0
  | .hostFrameComplete frame => ((frame.drop 1).headD 0).toNat
  | .hostFrameByteTimeout => 0
  | .hostByteFramingError => 0
  | .hostLineLow20Bits => 0
  | .takeFrame => 0
  | .transmitStart => 0
  | .transmitDone => 0
  | .ask _ _ _ => 0
  | .tellReadOnly _ _ _ => 0
  | .tellGeometry _ payload => payload.length
  | .tellOdometer _ _ => 4
  | .tellZoneEntry _ _ payload => payload.length
  | .tellReflexTable _ _ _ _ _ => 2
  | .tellSlipWindow _ _ payload => payload.length
  | .tellNoteMask _ payload => payload.length
  | .rise _ => 0
  | .settle _ => 0
  | .stride _ _ _ => 2
  | .stop _ => 0
  | .continueWalk _ => 0
  | .reseat _ => 0
  | .calibrate _ _ => 1
  | .withdraw _ _ => 1
  | .admitLeg _ _ => 1
  | .plan _ _ _ entries => 2 + entries.length
  | .unplan _ _ _ => 3
  | .unplanAll _ _ => 2
  | .swap _ _ entry => 1 + entry.length
  | .reflexesOn _ => 1
  | .reflexesOff _ => 1
  | .resume _ => 0
  | .reset _ => 0
  | .attitudeDataReady => 0
  | .sampleRead _ => 0
  | .staleTimeout => 0
  | .tipStaleTimeout => 0
  | .surveyTimeout => 0
  | .riseTimeout => 0
  | .loweringTimeout => 0
  | .shiftStall => 0
  | .swingTimeout => 0
  | .propelStall => 0
  | .pauseEnd => 0
  | .placeTimeout => 0
  | .reswingTimeout => 0
  | .steadyTimeout _ => 0
  | .braceTimeout => 0
  | .crouchTimeout => 0
  | .retractLiftTimeout => 0
  | .legRefreshDue _ => 0
  | .legCommandSend _ => 0
  | .legReportArrival _ _ => 0
  | .legReportTimeout _ => 0
  | .calibTimeout _ => 0
  | .calibSettleEnd _ => 0
  | .holdTimerExpiry _ => 0
  | .hotzSense _ => 0
  | .hotzDriveWindow => 0
  | .hostByteReceived _ => 0
  | .driveWindowEnd => 0

/-- A well-formed command's operands fit the 200 bytes of a host frame's payload. -/
def Statement (i : Instr) : Prop := WellFormed i = true → payloadLength i ≤ 200

theorem powerUpReset : Statement (.powerUpReset) := fun _ => by decide

theorem warmReset : Statement (.warmReset) := fun _ => by decide

theorem lowRunMeasured (ns : Nat) : Statement (.lowRunMeasured ns) := fun _ => by simp [payloadLength]

theorem hostLineBreak : Statement (.hostLineBreak) := fun _ => by decide

theorem hostFrameComplete (frame : List Byte) : Statement (.hostFrameComplete frame) := by
  intro h
  match frame with
  | [] => simp [payloadLength]
  | [_] => simp [payloadLength]
  | [_, _] => simp [WellFormed, frameFits] at h
  | _ :: len :: _ :: _ =>
    simp only [WellFormed, frameFits, decide_eq_true_eq] at h
    simpa [payloadLength] using h.2.1

theorem hostFrameByteTimeout : Statement (.hostFrameByteTimeout) := fun _ => by decide

theorem hostByteFramingError : Statement (.hostByteFramingError) := fun _ => by decide

theorem hostLineLow20Bits : Statement (.hostLineLow20Bits) := fun _ => by decide

theorem takeFrame : Statement (.takeFrame) := fun _ => by decide

theorem transmitStart : Statement (.transmitStart) := fun _ => by decide

theorem transmitDone : Statement (.transmitDone) := fun _ => by decide

theorem ask (seq unit item : Byte) : Statement (.ask seq unit item) := fun _ => by simp [payloadLength]

theorem tellReadOnly (seq unit item : Byte) : Statement (.tellReadOnly seq unit item) := fun _ => by simp [payloadLength]

theorem tellGeometry (seq : Byte) (payload : List Byte) : Statement (.tellGeometry seq payload) := fun h => by
  simpa [payloadLength, WellFormed, payloadFits] using h

theorem tellOdometer (seq : Byte) (value : Int) : Statement (.tellOdometer seq value) := fun _ => by simp [payloadLength]

theorem tellZoneEntry (seq index : Byte) (payload : List Byte) : Statement (.tellZoneEntry seq index payload) := fun h => by
  simp only [WellFormed, payloadFits, Bool.and_eq_true, decide_eq_true_eq] at h
  exact h.2

theorem tellReflexTable (seq : Byte) (code : Nat) (leg : Leg) (kind param : Nat) : Statement (.tellReflexTable seq code leg kind param) := fun _ => by simp [payloadLength]

theorem tellSlipWindow (seq : Byte) (leg : Leg) (payload : List Byte) : Statement (.tellSlipWindow seq leg payload) := fun h => by
  simpa [payloadLength, WellFormed, payloadFits] using h

theorem tellNoteMask (seq : Byte) (payload : List Byte) : Statement (.tellNoteMask seq payload) := fun h => by
  simpa [payloadLength, WellFormed, payloadFits] using h

theorem rise (seq : Byte) : Statement (.rise seq) := fun _ => by simp [payloadLength]

theorem settle (seq : Byte) : Statement (.settle seq) := fun _ => by simp [payloadLength]

theorem stride (seq count dir : Byte) : Statement (.stride seq count dir) := fun _ => by simp [payloadLength]

theorem stop (seq : Byte) : Statement (.stop seq) := fun _ => by simp [payloadLength]

theorem continueWalk (seq : Byte) : Statement (.continueWalk seq) := fun _ => by simp [payloadLength]

theorem reseat (seq : Byte) : Statement (.reseat seq) := fun _ => by simp [payloadLength]

theorem calibrate (seq leg : Byte) : Statement (.calibrate seq leg) := fun _ => by simp [payloadLength]

theorem withdraw (seq leg : Byte) : Statement (.withdraw seq leg) := fun _ => by simp [payloadLength]

theorem admitLeg (seq leg : Byte) : Statement (.admitLeg seq leg) := fun _ => by simp [payloadLength]

theorem plan (seq leg count : Byte) (entries : List Byte) : Statement (.plan seq leg count entries) := fun h => by
  simp only [WellFormed, decide_eq_true_eq] at h
  simp only [payloadLength]; omega

theorem unplan (seq leg tag : Byte) : Statement (.unplan seq leg tag) := fun _ => by simp [payloadLength]

theorem unplanAll (seq leg : Byte) : Statement (.unplanAll seq leg) := fun _ => by simp [payloadLength]

theorem swap (seq leg : Byte) (entry : List Byte) : Statement (.swap seq leg entry) := fun h => by
  simp only [WellFormed, decide_eq_true_eq] at h
  simp only [payloadLength]; omega

theorem reflexesOn (seq : Byte) : Statement (.reflexesOn seq) := fun _ => by simp [payloadLength]

theorem reflexesOff (seq : Byte) : Statement (.reflexesOff seq) := fun _ => by simp [payloadLength]

theorem resume (seq : Byte) : Statement (.resume seq) := fun _ => by simp [payloadLength]

theorem reset (seq : Byte) : Statement (.reset seq) := fun _ => by simp [payloadLength]

theorem attitudeDataReady : Statement (.attitudeDataReady) := fun _ => by decide

theorem sampleRead (sample : Option Sample) : Statement (.sampleRead sample) := fun _ => by simp [payloadLength]

theorem staleTimeout : Statement (.staleTimeout) := fun _ => by decide

theorem tipStaleTimeout : Statement (.tipStaleTimeout) := fun _ => by decide

theorem surveyTimeout : Statement (.surveyTimeout) := fun _ => by decide

theorem riseTimeout : Statement (.riseTimeout) := fun _ => by decide

theorem loweringTimeout : Statement (.loweringTimeout) := fun _ => by decide

theorem shiftStall : Statement (.shiftStall) := fun _ => by decide

theorem swingTimeout : Statement (.swingTimeout) := fun _ => by decide

theorem propelStall : Statement (.propelStall) := fun _ => by decide

theorem pauseEnd : Statement (.pauseEnd) := fun _ => by decide

theorem placeTimeout : Statement (.placeTimeout) := fun _ => by decide

theorem reswingTimeout : Statement (.reswingTimeout) := fun _ => by decide

theorem steadyTimeout (leg : Leg) : Statement (.steadyTimeout leg) := fun _ => by simp [payloadLength]

theorem braceTimeout : Statement (.braceTimeout) := fun _ => by decide

theorem crouchTimeout : Statement (.crouchTimeout) := fun _ => by decide

theorem retractLiftTimeout : Statement (.retractLiftTimeout) := fun _ => by decide

theorem legRefreshDue (leg : Leg) : Statement (.legRefreshDue leg) := fun _ => by simp [payloadLength]

theorem legCommandSend (leg : Leg) : Statement (.legCommandSend leg) := fun _ => by simp [payloadLength]

theorem legReportArrival (leg : Leg) (record : List Byte) : Statement (.legReportArrival leg record) := fun _ => by simp [payloadLength]

theorem legReportTimeout (leg : Leg) : Statement (.legReportTimeout leg) := fun _ => by simp [payloadLength]

theorem calibTimeout (leg : Leg) : Statement (.calibTimeout leg) := fun _ => by simp [payloadLength]

theorem calibSettleEnd (leg : Leg) : Statement (.calibSettleEnd leg) := fun _ => by simp [payloadLength]

theorem holdTimerExpiry (leg : Leg) : Statement (.holdTimerExpiry leg) := fun _ => by simp [payloadLength]

theorem hotzSense (asserted : Bool) : Statement (.hotzSense asserted) := fun _ => by simp [payloadLength]

theorem hotzDriveWindow : Statement (.hotzDriveWindow) := fun _ => by decide

theorem hostByteReceived (byte : Byte) : Statement (.hostByteReceived byte) := fun _ => by simp [payloadLength]

theorem driveWindowEnd : Statement (.driveWindowEnd) := fun _ => by decide

end Sys2Proof.Laws.OperandsSpelled
end

