-- ==== Sys2Proof/Tests/Slice0.lean ====
section
/-! SUPPORT. Tests: the checks of WellFormed, worked examples of the spec, and for every statement with hypotheses a
state and operands that meet them. -/

open Sys2Proof Sys2Proof.Machine

namespace Sys2Proof.Tests

/-! ## States -/

/-- The geometry of the worked examples of 02 and 03. -/
def geometry : Geometry :=
  { hip := ⟨⟨300, 200⟩, ⟨300, -200⟩, ⟨-300, 200⟩, ⟨-300, -200⟩⟩, cx := -20, cy := 30, cz := -20, stand := -420,
    crouch := -300, widening := 0, critical := 10 }

def footPoint (l : Leg) : Point := ⟨(geometry.hip.get l).x, (geometry.hip.get l).y, -420⟩

/-- A report at a point, with a force. -/
def reportOf (p : Point) (force : Int) : Report :=
  { x := p.x, y := p.y, z := p.z, force := force, temp := 40, swingDone := false, obstruct := false,
    overload := false, calibBusy := false, calibDone := false, fault := false, suggested := 0 }

/-- The bytes of a report record with flags and suggestion 0 but for the flags given (09, the report record). -/
def recordOf (p : Point) (force temp : Int) (flags suggested : Byte) : List Byte :=
  let bytes := bytesOfInt2 p.x ++ bytesOfInt2 p.y ++ bytesOfInt2 p.z ++ bytesOfInt2 force ++ bytesOfInt2 temp ++
    [flags, suggested]
  bytes ++ [checkByte bytes]

/-- Standing on four verified legs, level, the host link FRAMED. -/
def standing : State :=
  State.recompute
    { State.reset with
      pc.body := .stand, pc.geom := geometry, pc.written := true, pc.postureSafe := false,
      atp.slots := some ⟨⟨0, 0, -4096⟩, ⟨0, 0, -4096⟩, ⟨0, 0, -4096⟩, ⟨0, 0, -4096⟩⟩,
      scu.dbar := ⟨0, 0, -4096⟩, scu.stance := .all true, scu.margin := ⟨0, false, false⟩,
      ssq.cmd := .tab fun l => { mode := .stance, target := footPoint l, clearance := 0 },
      ssq.verified := .all true,
      llc := .tab fun l => { Link.atReset true with link := .ok, sendWaiting := false,
                                                    last := some (reportOf (footPoint l) 150) },
      hli.link := .framed, hli.rate := some .r115200 }

/-- Lying down, ready to rise. -/
def lying : State :=
  { standing with pc.body := .rest, pc.postureSafe := true, ssq.cmd := .all .atReset, ssq.verified := .all false,
                  scu.stance := .all false }

def withBody (s : State) (b : BodyState) : State := { s with pc.body := b }

/-- Under the protect latch. -/
def latched (s : State) : State := { s with pc.protect := true }

/-- A walk in a phase, LF stepping first, with two strides to go. -/
def walking (phase : Phase) : State :=
  { standing with pc.body := .walk, ssq.phase := phase, ssq.stepping := some .lf, ssq.count := 2,
                  ssq.phaseTimer := some 0, ssq.order := ⟨.lf, .rh, .rf, .lh⟩ }

/-- LF commanded into a mode, unverified and out of the stance set. -/
def lfIn (s : State) (mode : LegMode) : State :=
  { s with ssq.cmd := s.ssq.cmd.set .lf { s.cmdOf .lf with mode := mode },
           ssq.verified := s.ssq.verified.set .lf false, scu.stance := s.scu.stance.set .lf false }

def holding : State := { withBody standing .hold with ssq.next := some ⟨.lf, 1⟩, ssq.count := 2 }

/-- A reflex of a kind that interrupted STAND, at a stage. -/
def inReflex (kind : Kind) (stage : Stage) : State :=
  { withBody standing .recover with
    rxu.stack := [.stand], rxu.re1 := false,
    rxu.running := some { kind := kind, trigger := .cause .overload, leg := some .lf, param := 40,
                          retract := footPoint .lf, stage := stage, lift := 0 } }

/-- The link of a leg changed. -/
def linkIn (s : State) (l : Leg) (f : Link → Link) : State := { s with llc := s.llc.modify l f }

def runs (o : Host.Outcome State Fault Refusal) : Bool :=
  match o with
  | .next _ => true
  | _ => false

theorem next_of_runs {o : Host.Outcome State Fault Refusal} (h : runs o = true) : ∃ t, o = .next t := by
  cases o with
  | next t => exact ⟨t, rfl⟩
  | fault => cases h
  | refused => cases h

/-- A property of the next state; false where there is none. -/
def after (c : Instr) (s : State) (p : State → Bool) : Bool :=
  match exec c s with
  | .next t => p t
  | _ => false

/-! ## WellFormed: each check refuses an ill-formed command -/

theorem wellFormed_refuses_frames :
    WellFormed (.hostFrameComplete [0xA5, 0, 3]) = false ∧ WellFormed (.hostFrameComplete [0xA4, 0, 6, 9, 0, 0]) = false ∧
    WellFormed (.hostFrameComplete (0xA5 :: 201 :: 6 :: List.replicate 204 0)) = false ∧
    WellFormed (.hostFrameComplete [0xA5, 0, 3, 9, 1, 0]) = false ∧
    WellFormed (.hostFrameComplete [0xA5, 0, 3, 9, 1, 0, 0]) = true := by decide +kernel

theorem wellFormed_refuses_tells :
    WellFormed (.tellReadOnly 1 0 1) = false ∧ WellFormed (.tellReadOnly 1 8 36) = false ∧
    WellFormed (.tellReadOnly 1 8 35) = true ∧
    WellFormed (.tellGeometry 1 (List.replicate 201 0)) = false ∧ WellFormed (.tellOdometer 1 (-1)) = false ∧
    WellFormed (.tellOdometer 1 4294967296) = false ∧ WellFormed (.tellZoneEntry 1 16 []) = false ∧
    WellFormed (.tellZoneEntry 1 15 (List.replicate 201 0)) = false ∧
    WellFormed (.tellReflexTable 1 8 .lf 1 0) = false ∧ WellFormed (.tellReflexTable 1 1 .lf 256 0) = false ∧
    WellFormed (.tellReflexTable 1 1 .lf 1 256) = false ∧
    WellFormed (.tellSlipWindow 1 .lf (List.replicate 201 0)) = false ∧
    WellFormed (.tellNoteMask 1 (List.replicate 201 0)) = false := by
  decide +kernel

theorem wellFormed_refuses_operands :
    WellFormed (.plan 1 0 1 (List.replicate 199 0)) = false ∧ WellFormed (.swap 1 0 (List.replicate 200 0)) = false ∧
    WellFormed (.sampleRead (some ⟨8192, 0, 0⟩)) = false ∧ WellFormed (.sampleRead (some ⟨0, -8193, 0⟩)) = false ∧
    WellFormed (.sampleRead (some ⟨0, 0, 8192⟩)) = false ∧
    WellFormed (.sampleRead (some ⟨-8192, 8191, -8192⟩)) = true := by decide +kernel

/-- The table gives no bits to any row, so no word spells a command. -/
theorem no_word_is_a_command : decodeTableWord 0 0 = none ∧ decodeTableWord 32 0xFFFFFFFF = none := by decide

/-! ## Worked examples of the spec -/

/-- 11, Frames: the CRC of the nine ASCII digits 1 to 9 is 29B1h. -/
theorem test_crc : crc16 [0x31, 0x32, 0x33, 0x34, 0x35, 0x36, 0x37, 0x38, 0x39] = 0x29B1 := by decide +kernel

/-- 02, Worked case: climbing a conveyor gallery: 95 mm on the slope, 36 mm on the level. -/
theorem test_gallery_margins :
    marginOf ⟨-127, 30⟩ (vertexList [⟨300, 200⟩, ⟨-300, 200⟩, ⟨-300, -200⟩]) = 95 ∧
      marginOf ⟨-20, 30⟩ (vertexList [⟨300, 200⟩, ⟨-300, 200⟩, ⟨-300, -200⟩]) = 36 := by decide

/-- 02, the same case: shift_x of (-1060, 0, -3956) at height 400 is -107. -/
theorem test_gallery_shift : slopeShift (-1060) 400 3956 = -107 ∧ slopeShift 0 400 3956 = 0 := by decide

/-- 02, Worked case: a floored distance: shifts 31 and -39. -/
theorem test_walkway_shift : slopeShift 310 400 4000 = 31 ∧ slopeShift (-390) 400 4000 = -39 := by decide

/-- 02, the same case: 186 mm on four feet, -15 without RF (floored), the centroid (-98, 68). -/
theorem test_walkway_margins :
    marginOf ⟨11, -9⟩ (vertexList [⟨295, 195⟩, ⟨-300, 200⟩, ⟨-290, -190⟩, ⟨300, -200⟩]) = 186 ∧
      marginOf ⟨11, -9⟩ (vertexList [⟨295, 195⟩, ⟨-300, 200⟩, ⟨-290, -190⟩]) = -15 ∧
      centroid [⟨295, 195⟩, ⟨-300, 200⟩, ⟨-290, -190⟩] = ⟨-98, 68⟩ := by decide

/-- R37: a cut step lands on the limit, and past it only a decrease is taken. -/
theorem test_sway_cut : cutAxis 98 100 4 = 2 ∧ cutAxis (-98) 100 (-4) = -2 ∧ cutAxis 110 100 4 = 0 ∧
    cutAxis 110 100 (-4) = -4 := by decide

/-- R22: the ends of the magnitude range: 3072 squared and 5120 squared. -/
theorem test_sample_range :
    sampleAccepted ⟨0, 0, -3072⟩ = true ∧ sampleAccepted ⟨0, 0, -3071⟩ = false ∧
      sampleAccepted ⟨0, 0, -5120⟩ = true ∧ sampleAccepted ⟨0, 1, -5120⟩ = false := by decide

/-- 11: a run of 10.9 microseconds matches 460,800 bit/s. -/
theorem test_rate : rateOfRun 10900 = some .r460800 ∧ rateOfRun 43400 = some .r115200 := by decide

/-- R178, R179: bands and fall points. -/
theorem test_bands : band 69 = 0 ∧ band 70 = 1 ∧ band 85 = 2 ∧ band 95 = 3 ∧ fallPoint 2 = some 80 := by decide

/-- R19: RISING is not left by a RISE, which is BUSY there; REST without geometry is STATE. -/
theorem test_rise_refused :
    after (.rise 5) (withBody standing .rising) (fun t => t.hli.slot.map Answer.status == some .busy) = true ∧
      after (.rise 5) { lying with pc.written := false } (fun t => t.hli.slot.map Answer.status == some .state) = true := by
  decide

/-- R68: a quarter stride on an odometer at 0, backward, leaves it at 0. -/
theorem test_propel_below_zero :
    after (.legReportArrival .lf (recordOf (footPoint .lf) 150 40 0 0))
      (linkIn { walking .propel with ssq.quarter := -25, ssq.dir := .backward, ssq.count := 1 } .lf
        fun k => { k with awaiting := true })
      (fun t => t.ssq.odometer == 0 && t.scu.sway == Pair.zero) = true := by decide

/-- R162: the command record of a LIMP leg at the origin is twelve bytes that sum to 0. -/
theorem test_command_record : (commandRecord LegCmd.atReset).length = 12 ∧ byteSum (commandRecord LegCmd.atReset) = 0 := by
  decide

/-- R145: CROUCH is no kind of the reflex table, and neither are 0 and 7. -/
theorem test_table_kinds : Kind.ofCode? 0 = none ∧ Kind.ofCode? 6 = none ∧ Kind.ofCode? 7 = none ∧
    Kind.ofCode? 5 = some .regroup := by decide

/-! ## Witnesses: invariants and rules of the whole machine -/

/-- LF in the air in a walk, with a cause pending, an entry in use and a command that waits. -/
def swinging : State :=
  { lfIn (walking .swing) .swing with
    pending := [.swingTimeout], rxu.re1 := false, rxu.pending := [⟨.unload, .rh⟩],
    fhq := State.reset.fhq.set .lf
      { entries := [{ tag := 255, dx := 200, dy := -200, dz := 300, alternates := [⟨20, -20⟩], contact := some 400,
                      inUse := true }],
        consumed := none, discarded := none } }

theorem witness_steps : runs (step swinging) = true := by decide

theorem witness_OneLegInAirIsKept : OneLegInAir swinging ∧ ∃ t, step swinging = .next t := by
  refine ⟨fun k l hk hl => ?_, next_of_runs witness_steps⟩
  cases k <;> cases l <;> first | rfl | (exfalso; revert hk; unfold State.inAir; decide) | (exfalso; revert hl; unfold State.inAir; decide)

theorem witness_StanceSetStaysCurrent : StanceSetCurrent swinging ∧ ∃ t, step swinging = .next t :=
  ⟨fun l => by cases l <;> decide, next_of_runs witness_steps⟩

theorem witness_ActivityStaysSound : ActivitySound swinging ∧ ∃ t, step swinging = .next t :=
  ⟨⟨by decide, by decide, by decide, by decide, by decide, fun _ => .inl rfl, (fun h => by cases h),
    (fun h => absurd rfl h), fun h => by cases h⟩,
    next_of_runs witness_steps⟩

/-- A reflex that interrupted STAND, its WAIT stage running. -/
theorem witness_ActivityStaysSound_recover : ActivitySound (inReflex .brace .wait) :=
  ⟨by decide, by decide, by decide, by decide, by decide, (fun h => absurd rfl h), (fun h => by cases h),
    (fun h => absurd rfl h), fun h => by cases h⟩

theorem witness_PostureSafeExactlyInRest : SafeOnlyLyingDown swinging ∧ SafeOnlyLyingDown lying := by
  unfold SafeOnlyLyingDown; decide

theorem witness_TargetsCapacitiesAndSync :
    TargetsInRange { swinging with ssq.cmd := swinging.ssq.cmd.set .rf ⟨.stance, ⟨2000, -2000, -2000⟩, 0⟩ } ∧
      WithinCapacities { swinging with hli.notes := List.replicate 16 (.calib .lf .done) } ∧ SyncIsEmpty State.reset ∧
      ∃ t, step swinging = .next t :=
  ⟨fun l => by cases l <;> decide, by unfold WithinCapacities; decide, by unfold SyncIsEmpty; decide,
    next_of_runs witness_steps⟩

theorem witness_PendingListAndFootholds :
    PendingSound swinging ∧ FootholdsSound swinging ∧ ∃ t, step swinging = .next t :=
  ⟨by unfold PendingSound; decide, fun l => by unfold QueueSound; cases l <;> decide, next_of_runs witness_steps⟩

/-- A table with one zone to 9000 mm. -/
def zoned : State :=
  { standing with ztb.entries := standing.ztb.entries.set 0 { ZoneEntry.blank with valid := true, limit := 9000 },
                  ztb.inForce := 0, pending := [.tellOdometer 1 9001], scu.sway := ⟨150, -150⟩ }

theorem witness_ZoneInForceAndSway :
    ZonesSound zoned ∧ SwayBounded zoned ∧ ∃ t, step zoned = .next t :=
  ⟨by unfold ZonesSound; decide, by unfold SwayBounded; decide, next_of_runs (by decide)⟩

/-- Windows side by side, the last at the end of the store. -/
def windowed : State :=
  { standing with slm.legs := ⟨{ SlipLeg.atReset with start := 0, length := 16, next := 15, fill := 16 },
                               { SlipLeg.atReset with start := 16, length := 1, next := 16 },
                               { SlipLeg.atReset with start := 48, length := 16, next := 63, fill := 3 },
                               SlipLeg.atReset⟩,
                  tdu.legs := standing.tdu.legs.set .rf { level := 3, hold := some 0, last := some 96 },
                  tdu.body := 3, pending := [.holdTimerExpiry .rf] }

theorem witness_SlipWindowsAndLevels :
    WindowsSound windowed ∧ LevelsSound windowed ∧ ∃ t, step windowed = .next t := by
  refine ⟨⟨fun l => ?_, fun k l => ?_⟩, ⟨fun l => ?_, by decide⟩, next_of_runs (by decide)⟩
  · unfold WindowSound; cases l <;> decide
  · cases k <;> cases l <;> decide
  · cases l <;> decide

theorem witness_GeometryAndLatch :
    Instr.warmReset ≠ .powerUpReset ∧ (latched standing).pc.written = true ∧ (latched standing).pc.protect = true ∧
      ∃ t, exec .warmReset (latched standing) = .next t :=
  ⟨by decide, rfl, rfl, next_of_runs (by decide)⟩

theorem witness_LatchedReflexUnit :
    ¬ Resets .braceTimeout (latched (inReflex .brace .wait)) ∧ (latched (inReflex .brace .wait)).pc.protect = true ∧
      ∃ t, exec .braceTimeout (latched (inReflex .brace .wait)) = .next t :=
  ⟨by unfold Resets; decide, rfl, next_of_runs (by decide)⟩

/-- A SHIFT of LF with P well inside the other three feet: the centre of gravity lies behind. -/
def shifting : State :=
  State.recompute { walking .shift with pc.geom.cx := -100, pc.geom.cy := -50, atp.reading := true }

theorem witness_NoLiftWithoutMargin :
    (∀ k, shifting.pls.placement = some k → shifting.modeOf k ≠ .stance) ∧ shifting.modeOf .lf = .stance ∧
      after (.sampleRead (some ⟨0, 0, -4096⟩)) shifting (fun t => t.modeOf .lf == .swing) = true :=
  ⟨(by intro k h; cases h), by decide, by decide⟩

theorem witness_OnlyARiseLeavesRest :
    ¬ Resets (.rise 1) lying ∧ lying.pc.body = .rest ∧
      after (.rise 1) lying (fun t => t.pc.body == .rising) = true := by
  unfold Resets; decide

theorem witness_Resumptions : swinging.settleFuel ≤ 4 := by decide

/-! ## Witnesses: records, arithmetic, notes, resets -/

theorem witness_HostFramesReadBack :
    ([1, 2] : List Byte).length = addressLength 1 ∧ ([] : List Byte).length = addressLength 6 ∧
      (List.replicate 200 (0 : Byte)).length ≤ 200 := by decide +kernel

theorem witness_RecordsReadBack :
    geometry.inRanges = true ∧ ZoneEntry.blank.params.inRanges = true ∧ (16777215 : Nat) < 16777216 ∧
      (∀ e, (swinging.queueOf .lf).entries.head? = some e →
        e.tag < 256 ∧ e.clamped = e ∧ e.alternates.length ≤ 3) ∧
      ([1, 0, 0, 0, 0, 0, 0, 0, 0, 0, 0, 0, 0] : List Byte).length = 13 ∧
      byteSum [1, 0, 0, 0, 0, 0, 0, 0, 0, 0, 0, 0, 0] ≠ 0 := by
  refine ⟨by decide, by decide, by decide, ?_, by decide, by decide⟩
  intro e h; cases h; decide

theorem witness_RootsAndSlopes : (2048 : Int) ≤ 2048 ∧ (0 : Int) ≤ 50 := by decide

theorem witness_NotesQueueInOrder :
    State.reset.hli.link = .sync ∧
    (let s := { standing with hli.mask := 0#16 };
      s.hli.link = .framed ∧ s.hli.mask.getLsbD (Note.kind (.calib .lf .done) - 1) = false) ∧
    (let s := { standing with hli.notes := List.replicate 15 (.calib .lf .done) };
      s.hli.mask.getLsbD (Note.kind (.calib .lf .done) - 1) = true ∧ s.hli.notes.length < 16) ∧
    (let s := { standing with hli.notes := List.replicate 16 (.calib .lf .done) };
      s.hli.mask.getLsbD (Note.kind (.calib .lf .done) - 1) = true ∧ 16 ≤ s.hli.notes.length) := by decide

theorem witness_ResetsAndMilliseconds :
    lying.pc.postureSafe = true ∧ standing.pc.postureSafe = false ∧ (walking .swing).pending = [] ∧
      (latched standing).pc.protect = true := by decide

theorem witness_HostLinkAfterEitherReset :
    (∃ t, exec .powerUpReset standing = .next t) ∧ ∃ t, exec .warmReset standing = .next t :=
  ⟨next_of_runs (by decide), next_of_runs (by decide)⟩

/-! ## Witnesses: the host line -/

def answerOf (seq : Byte) : Answer := { seq := seq, status := .ok, payload := .bytes [] }

/-- A run of 44701 ns lies just within 3% of 115,200 bit/s, and one of 44703 ns just outside every rate. -/
theorem witness_TheRateLocks :
    State.reset.hli.link = .sync ∧ State.reset.hli.measured ≠ some .r115200 ∧
    ((44701 * 1000 : Int) - 5 * BitRate.r115200.bitTime).natAbs * 100 < 15 * BitRate.r115200.bitTime ∧
    (let s := { State.reset with hli.measured := some .r115200 }; s.hli.link = .sync ∧ s.hli.warmNote = none) ∧
    (let s := { State.reset with hli.measured := some .r115200, hli.warmNote := some (.walk, .unsettled) };
      s.hli.notes = [] ∧ s.hli.mask = 0x01FF) ∧
    (∀ r ∈ ([.r115200, .r230400, .r460800, .r921600] : List BitRate),
      15 * r.bitTime < ((44703 * 1000 : Int) - 5 * r.bitTime).natAbs * 100) ∧
    standing.hli.link = .framed ∧ standing.hli.resetTaken = false ∧
    ({ standing with hli.resetTaken := true } : State).hli.resetTaken = true := by decide

theorem witness_FramesAreCollected :
    standing.hli.link = .framed ∧ standing.hli.receiver = none ∧
    ({ standing with hli.receiver := some [0xA5] } : State).hli.receiver = some [0xA5] ∧
    200 < (201 : Byte).toNat ∧ (200 : Byte).toNat ≤ 200 ∧ 2 ≤ ([0xA5, 0] : List Byte).length ∧
    ([0xA5, 0, 3, 9] : List Byte).length ≤ 4 ∧
    ({ standing with hli.receiver := some [0xA5, 1, 3, 9, 1, 0, 0] } : State).hli.receiver = some [0xA5, 1, 3, 9, 1, 0, 0] ∧
    ([0xA5, 1, 3, 9, 1, 0, 0, 0] : List Byte).length = 1 + 1 + 1 + 1 + addressLength 3 + (1 : Byte).toNat + 2 ∧
    decodeFrame [0xA5, 1, 3, 9, 1, 0, 0, 0] = none ∧
    ([0xA5, 1, 3, 9, 1, 0, 0] : List Byte).length ≠ 1 + 1 + 1 + 1 + addressLength 3 + (1 : Byte).toNat + 2 := by
  decide +kernel

theorem witness_FramesAreQueued :
    ([1] : List Byte).length = addressLength 3 ∧ ([] : List Byte).length ≤ 200 ∧
    (let s := { standing with hli.slot := some (answerOf 1) }; s.hli.input.length < 4 ∧ s.hli.slot ≠ none) ∧
    (let f : Frame := { kind := 3, seq := 1, address := [1], payload := [] };
      4 ≤ ({ standing with hli.input := [f, f, f, f] } : State).hli.input.length) ∧
    (let bytes := encodeFrame 3 1 [1] [];
      ({ standing with hli.receiver := some bytes.dropLast } : State).hli.receiver = some bytes.dropLast ∧
        bytes.getLast?.isSome = true) := by decide +kernel

theorem witness_ATakenFrame :
    Ready { standing with hli.input := [{ kind := 3, seq := 7, address := [11], payload := [0, 1] }] } ∧
      (1 : Byte) ≠ 0 := by
  unfold Ready; decide

/-- R191: an ANSWER sent by the host, and a DO of code 16, under the protect latch. -/
theorem witness_UnknownFrames :
    Ready (latched standing) ∧ (latched standing).pc.protect = true ∧ (4 : Byte) ≠ 1 ∧ (4 : Byte) ≠ 2 ∧ (4 : Byte) ≠ 3 ∧
    15 < (16 : Byte).toNat ∧
    (∀ f ∈ [Frame.mk 4 7 [] [], ⟨3, 7, [0], []⟩, ⟨3, 7, [16], [1]⟩],
      after .takeFrame { latched standing with hli.input := [f] }
        (fun t => t.hli.slot == some { seq := 7, status := .unknown, payload := .bytes [] }) = true) := by
  unfold Ready; decide

theorem witness_Transmissions :
    standing.hli.link = .framed ∧ standing.hli.tx = .free ∧
    ({ standing with hli.slot := some (answerOf 1) } : State).hli.slot = some (answerOf 1) ∧
    ({ standing with hli.notes := [.calib .lf .done], hli.lost := true } : State).hli.notes = [.calib .lf .done] ∧
    ({ standing with hli.tx := .note (.calib .lf .done) true } : State).hli.tx = .note (.calib .lf .done) true ∧
    (let s := { standing with hli.tx := .answer (answerOf 1), hli.slot := some (answerOf 1) };
      s.hli.tx = .answer (answerOf 1) ∧ s.hli.resetTaken = false ∧ s.hli.input = []) ∧
    (let s := { standing with hli.tx := .answer (answerOf 1), hli.slot := some (answerOf 1), hli.resetTaken := true };
      s.hli.tx = .answer (answerOf 1) ∧ s.hli.resetTaken = true) ∧ Ready standing := by
  unfold Ready; decide

/-! ## Witnesses: items -/

theorem witness_AskReturnsTheItem :
    Ready standing ∧ standing.ztb.entries[15]? = some .blank ∧
      ((linkIn standing .rh fun k => { k with withdrawn := true }).link .rh).withdrawn = true := by
  unfold Ready; decide

theorem witness_GeometryIsTold :
    Ready standing ∧ (latched standing).pc.protect = true ∧ standing.pc.protect = false ∧
    standing.pc.written = true ∧ (let s := { lying with pc.written := false }; Ready s ∧ s.pc.protect = false ∧
      s.pc.written = false) ∧ ([] : List Byte).length ≠ 29 ∧
    geometryOfBytes ((geometryBytes geometry false).take 29) = some geometry ∧ geometry.inRanges = true ∧
    (let g := { geometry with crouch := -420 };
      geometryOfBytes ((geometryBytes g false).take 29) = some g ∧ g.inRanges = false) := by
  unfold Ready; decide

theorem witness_OdometerIsTold :
    Ready zoned ∧ (latched zoned).pc.protect = true ∧ zoned.pc.protect = false ∧ (-1 : Int) < 0 ∧
    (16777215 : Int) < 16777216 ∧ (0 : Int) ≤ 16777215 ∧ zoned.ztb.entries.length = 16 ∧
    (∀ e, zoned.ztb.entries[0]? = some e → e.valid = true ∧ 9000 ≤ e.limit) := by
  refine ⟨⟨rfl, rfl, rfl⟩, rfl, rfl, by decide, by decide, by decide, by decide, ?_⟩
  intro e h; cases h; decide

/-- A zone entry that the lock may pass or refuse, the body walking. -/
def zonedWalk : State := withBody zoned .walk

def zoneAt (limit : Nat) (stride : Int) : ZoneEntry :=
  { ZoneEntry.blank with valid := true, limit := limit, params.stride := stride }

theorem witness_ZoneTell :
    Ready zonedWalk ∧ (15 : Byte).toNat < 16 ∧ (latched zoned).pc.protect = true ∧ zonedWalk.pc.protect = false ∧
    ([] : List Byte).length ≠ 17 ∧ zoneOfBytes (zoneBytes (zoneAt 9000 401)) = none ∧
    zoneOfBytes (zoneBytes (zoneAt 9000 90)) = some (zoneAt 9000 90) ∧
    limitsRise (zonedWalk.ztb.entries.set 1 (zoneAt 9000 90)) = false ∧
    limitsRise (zonedWalk.ztb.entries.set 0 (zoneAt 9000 110)) = true ∧
    zonedWalk.passesLock 0 (zoneAt 9000 110) = false ∧ zonedWalk.passesLock 0 (zoneAt 9000 90) = true ∧
    zonedWalk.pc.body = .walk ∧ ¬ (zoned.pc.body = .walk ∨ zoned.pc.body = .hold ∨ zoned.pc.body = .recover) ∧
    zonedWalk.ztb.entries[0]? = some (zoneAt 9000 100) ∧ zonedWalk.ztb.inForce = 0 := by
  refine ⟨⟨rfl, rfl, rfl⟩, ?_⟩
  decide

theorem witness_SlipWindow :
    Ready windowed ∧ (latched windowed).pc.protect = true ∧ windowed.pc.protect = false ∧
    ([63] : List Byte).length < 2 ∧ 63 < (64 : Byte).toNat ∧ 16 < (17 : Byte).toNat ∧
    64 < (49 : Byte).toNat + (16 : Byte).toNat ∧ (63 : Byte).toNat ≤ 63 ∧ (63 : Byte).toNat + (1 : Byte).toNat ≤ 64 ∧
    (Leg.rh ≠ .lf ∧ (0 : Nat) ≤ 15 ∧ 15 < 0 + 16 ∧ (windowed.slipOf .lf).start ≤ 15 ∧
      15 < (windowed.slipOf .lf).start + (windowed.slipOf .lf).length) ∧
    (∀ k ∈ Leg.all, k ≠ .rh → ¬ ((windowed.slipOf k).start ≤ 17 ∧
      17 < (windowed.slipOf k).start + (windowed.slipOf k).length)) := by
  refine ⟨⟨rfl, rfl, rfl⟩, ?_⟩
  decide

theorem witness_TableAndMask :
    Ready standing ∧ Ready (latched standing) ∧ (latched standing).pc.protect = true ∧ standing.pc.protect = false ∧
    ([1, 0, 0] : List Byte).length ≠ 2 ∧ ([] : List Byte).length ≠ 2 ∧ Kind.regroup ≠ .crouch ∧ 150 ≤ 150 ∧
    150 < 151 ∧ 5 < 6 ∧ (1 : Byte).toNat ≤ 1 ∧ 2 ≤ (2 : Byte).toNat ∧ writableItem 2 0 = false ∧
    writableItem 15 0 = false ∧ (standing.link .lf).withdrawn = false ∧
    ((linkIn standing .lf fun k => { k with withdrawn := true }).link .lf).withdrawn = true := by
  unfold Ready; decide

/-! ## Witnesses: posture -/

theorem witness_RiseIsJudgedAndBegins :
    Ready lying ∧ riseRefusal lying = none ∧
    ((linkIn lying .rh fun k => { k with withdrawn := true }).link .rh).withdrawn = true ∧
    riseRefusal (linkIn lying .rh fun k => { k with withdrawn := true }) = none ∧ (lying.link .lf).withdrawn = false ∧
    riseRefusal (latched lying) = some .latched ∧ riseRefusal (withBody lying .rising) = some .busy ∧
    riseRefusal standing = some .state ∧ riseRefusal { lying with pc.written := false } = some .state ∧
    riseRefusal (linkIn lying .lf fun k => { k with calib := .settle }) = some .busy ∧
    riseRefusal (linkIn lying .rf fun k => { k with firstDone := false }) = some .state ∧
    riseRefusal (linkIn lying .lh fun k => { k with link := .wait }) = some .state := by
  unfold Ready; decide

theorem witness_Settle :
    Ready standing ∧ lying.pc.body = .rest ∧ (walking .shift).pc.body = .walk ∧ Ready (walking .shift) ∧
    ({ standing with pls.reseat := true } : State).pls.reseat = true ∧ standing.pc.body = .stand ∧
    standing.pls.reseat = false ∧ PendingSound standing := by
  unfold Ready PendingSound; decide

theorem witness_PostureTimers :
    (withBody standing .rising).pc.body = .rising ∧ PendingSound (withBody standing .rising) ∧
      (withBody standing .lowering).pc.body = .lowering := by
  unfold PendingSound; decide

/-! ## Witnesses: attitude and support -/

/-- The ends of the accepted range, and the values beside them. -/
theorem witness_Samples :
    (9437184 : Int) ≤ 0 * 0 + 0 * 0 + -3072 * -3072 ∧ (0 * 0 + 0 * 0 + -5120 * -5120 : Int) ≤ 26214400 ∧
    (0 * 0 + 0 * 0 + -3071 * -3071 : Int) < 9437184 ∧ (26214400 : Int) < 1 * 1 + 0 * 0 + -5120 * -5120 ∧
    State.reset.atp.slots = none ∧ standing.atp.slots.isSome = true ∧ standing.atp.reading = false ∧
    shifting.atp.reading = true ∧ standing.scu.attStale = false ∧
    ({ standing with scu.attStale := true } : State).scu.attStale = true := by decide

/-- UNSETTLED, in a survey, LF found in HOLD. -/
def surveying : State := { withBody (lfIn standing .hold) .unsettled with scu.survey := true, scu.surveyTimer := some 100 }

/-- The staleness of 200 ms holds. -/
def stale (s : State) : State := { s with scu.tipStale := true }

theorem oneLeg_standing (b : BodyState) (survey : Bool) :
    OneLegInAir (stale { withBody (lfIn standing .hold) b with scu.survey := survey, scu.surveyTimer := some 100 }) := by
  intro k l hk
  exfalso; revert hk; unfold State.inAir; cases k <;> cases b <;> cases survey <;> decide

theorem oneLeg_swinging : OneLegInAir swinging := witness_OneLegInAirIsKept.1

theorem witness_Staleness :
    (swinging.tipTested = true ∧ swinging.scu.tipRaised = false ∧ swinging.pc.protect = false ∧
      swinging.rxu.crouch = .clear ∧ swinging.rxu.stack.length < 4 ∧ OneLegInAir swinging ∧ FootholdsSound swinging) ∧
    lying.tipTested = false ∧
    (surveying.scu.survey = true ∧ surveying.tipHolds = false ∧ surveying.pc.body = .unsettled) ∧
    ((stale surveying).scu.survey = true ∧ (stale surveying).tipHolds = true ∧ (stale surveying).pc.body = .unsettled ∧
      (stale surveying).scu.tipRaised = false ∧ (stale surveying).pc.protect = false ∧
      (stale surveying).rxu.crouch = .clear ∧ (stale surveying).rxu.stack.length < 4 ∧ OneLegInAir (stale surveying)) := by
  refine ⟨⟨by decide, rfl, rfl, rfl, by decide, oneLeg_swinging, fun l => ?_⟩, by decide, by decide, by decide, by decide,
    by decide, by decide, by decide, by decide, by decide, oneLeg_standing .unsettled true⟩
  unfold QueueSound; cases l <;> decide

/-- R143: what interrupts a walk, a STAND and a HOLD is the activity they were at. -/
theorem test_contexts :
    after .tipStaleTimeout swinging
      (fun t => t.rxu.stack == [.walk (some .lf) 1 .swing 2 .forward 0]) = true ∧
    after .tipStaleTimeout holding (fun t => t.rxu.stack == [.hold (some ⟨.lf, 1⟩) 2 .forward]) = true := by decide

/-! ## Witnesses: margins -/

/-- The level sample of the states above, and one on a slope of more than 60 degrees. -/
def level : Sample := ⟨0, 0, -4096⟩
def steep : Sample := ⟨4000, 0, -1000⟩

/-- A SHIFT of LF whose P lies 36 mm inside the other three feet's edges. -/
def unready : State := walking .shift

theorem witness_Margins :
    (let feet : List Pair := [⟨0, 0⟩, ⟨0, 0⟩, ⟨5, 0⟩, ⟨0, 0⟩];
      vertexList feet = [⟨0, 0⟩, ⟨5, 0⟩] ∧ isDegenerate (vertexList feet) = true) ∧
    isDegenerate (vertexList [⟨0, 0⟩, ⟨0, 10⟩, ⟨10, 0⟩]) = true ∧
    isDegenerate (vertexList [⟨0, 0⟩, ⟨10, 0⟩, ⟨0, 10⟩]) = false ∧
    acceptable level ∧ acceptable steep ∧ standing.ssq.phase ≠ .shift ∧ standing.rxu.stack.length < 4 ∧
    after (.sampleRead (some level)) standing (fun t => decide (2048 ≤ -t.scu.dbar.dz)) = true ∧
    after (.sampleRead (some steep)) State.reset (fun t => decide (2048 ≤ -t.scu.dbar.dz)) = false ∧
    (0 : Int) ≤ 100 ∧ (98 : Int).natAbs < (100 : Int) ∧ (100 : Int) ≤ (100 : Int).natAbs := by
  unfold acceptable; decide

/-- The legs stand where they are commanded. -/
def settled (s : State) : Prop :=
  ∀ k, s.inStance k = true → ((s.footOf k).x - (s.cmdOf k).target.x).natAbs ≤ 5 ∧
    ((s.footOf k).y - (s.cmdOf k).target.y).natAbs ≤ 5 ∧ ((s.footOf k).z - (s.cmdOf k).target.z).natAbs ≤ 5

theorem witness_MarginsGovernTheLift :
    (unready.ssq.phase = .shift ∧ unready.ssq.stepping = some .lf ∧ unready.pc.protect = false ∧
      (sampled unready level).tipHolds = false ∧ settled unready ∧
      (let u := sampled unready level
       let vs := feetOf u fun k => k != .lf
       marginOf u.scu.p vs < unready.ssq.latched.threshold ∧ u.scu.margin.notReady = false ∧ isDegenerate vs = false ∧
         cutAxis 0 100 (max (-4) (min 4 ((vs.map Pair.x).sum.tdiv vs.length - u.scu.p.x))) ≠ 0)) ∧
    (shifting.ssq.phase = .shift ∧ shifting.ssq.stepping = some .lf ∧ shifting.pc.protect = false ∧
      (sampled shifting level).tipHolds = false ∧ settled shifting ∧
      (let u := sampled shifting level
       shifting.ssq.latched.threshold ≤ marginOf u.scu.p (feetOf u fun k => k != .lf) ∧ u.scu.margin.notReady = false) ∧
      Striding shifting ∧ shifting.pc.body = .walk ∧ shifting.rxu.crouch = .clear ∧ shifting.rxu.stack = [] ∧
      shifting.ssq.stopMark = false ∧ shifting.rxu.waiting = false ∧ shifting.rxu.pending = [] ∧ shifting.tdu.body < 3 ∧
      (shifting.link .lf).link = .ok ∧ (∀ k, ¬ shifting.inAir k) ∧
      after (.sampleRead (some level)) shifting (fun t => t.rxu.crouch == .clear && t.modeOf .lf == .swing) = true) := by
  unfold Striding
  refine ⟨⟨by decide, by decide, by decide, by decide, fun k => ?_, by decide⟩,
    ⟨by decide, by decide, by decide, by decide, fun k => ?_, by decide, by decide, by decide, by decide, by decide,
      by decide, by decide, by decide, by decide, by decide, fun k => ?_, by decide⟩⟩
  · cases k <;> decide
  · cases k <;> decide
  · unfold State.inAir; cases k <;> decide

/-- A SHIFT of LF with no room for sway: a walk's, a reseat procedure's, a reflex's. -/
def spent : State := { unready with ssq.latched.swayLimit := 0 }
def spentReseat (b : BodyState) : State := { withBody spent b with pls.reseat := true, pls.origin := b.origin }
def spentReflex : State :=
  { withBody spent .recover with rxu.stack := [.stand], rxu.running := (inReflex .reseatOne .reseat).rxu.running }

theorem witness_SwayExhausted :
    (∀ s ∈ [spent, spentReseat .stand, spentReseat .hold, spentReseat .unsettled, spentReflex],
      s.ssq.phase = .shift ∧ s.ssq.stepping = some .lf ∧ s.pc.protect = false ∧ (sampled s level).tipHolds = false ∧
      s.rxu.waiting = false ∧ s.rxu.pending = [] ∧
      (∀ k ∈ Leg.all, (s.footOf k).x = (s.cmdOf k).target.x ∧ (s.footOf k).y = (s.cmdOf k).target.y ∧
        (s.footOf k).z = (s.cmdOf k).target.z) ∧
      (let u := sampled s level
       let vs := feetOf u fun k => k != .lf
       marginOf u.scu.p vs < s.ssq.latched.threshold ∧ u.scu.margin.notReady = false ∧ isDegenerate vs = false ∧
       cutAxis s.scu.sway.x s.ssq.latched.swayLimit (max (-4) (min 4 ((vs.map Pair.x).sum.tdiv vs.length - u.scu.p.x))) = 0 ∧
       cutAxis s.scu.sway.y s.ssq.latched.swayLimit (max (-4) (min 4 ((vs.map Pair.y).sum.tdiv vs.length - u.scu.p.y))) = 0)) ∧
    Striding spent ∧ spent.pc.body = .walk ∧
    (∀ b ∈ [BodyState.stand, .hold, .unsettled], (spentReseat b).pls.reseat = true ∧ (spentReseat b).rxu.running = none ∧
      (spentReseat b).pc.body = b ∧ (spentReseat b).pls.origin = b.origin) ∧
    (∃ r, spentReflex.rxu.running = some r ∧ r.stage = .reseat) ∧ spentReflex.pc.body = .recover ∧
    spentReflex.rxu.stack = [.stand] := by
  unfold Striding
  refine ⟨by decide, by decide, by decide, by decide, ⟨_, rfl, rfl⟩, rfl, rfl⟩

/-- R55, R53, R89: NO_MARGIN names the stepping leg; a walk holds before that step, a reseat from STAND with no step. -/
theorem test_no_margin :
    after (.sampleRead (some level)) spent (fun t => t.pc.body == .hold && t.ssq.next == some ⟨.lf, 1⟩ &&
      t.hli.notes == [.fault .noMargin (some .lf) none, .body .walk .hold .fault]) = true ∧
    after (.sampleRead (some level)) (spentReseat .stand) (fun t => t.pc.body == .hold && t.ssq.next == none &&
      t.hli.notes == [.fault .noMargin (some .lf) none, .fault .reseatFail none none, .body .stand .hold .fault]) = true := by
  decide

/-! ## Witnesses: walking -/

theorem witness_Stride :
    Ready standing ∧ strideRefusal standing 128 1 = none ∧ strideRefusal standing 127 0 = none ∧ Steady standing ∧
    strideRefusal standing 0 0 = some .range ∧ strideRefusal standing 1 2 = some .range ∧
    strideRefusal (latched standing) 1 0 = some .latched ∧ strideRefusal lying 1 0 = some .state ∧
    strideRefusal holding 1 0 = some .busy ∧
    strideRefusal { standing with pls.reseat := true } 1 0 = some .busy ∧
    strideRefusal (linkIn standing .lf fun k => { k with link := .lost }) 1 0 = some .state ∧
    strideRefusal (lfIn standing .stance) 1 0 = some .state ∧
    strideRefusal { standing with tdu.body := 3 } 1 0 = some .state ∧
    strideRefusal { standing with tdu.body := 2 } 1 0 = none ∧
    strideRefusal { standing with scu.attStale := true } 1 0 = some .state ∧
    strideRefusal { standing with rxu.pending := [⟨.unload, .lf⟩] } 1 0 = some .state := by
  unfold Ready Steady; decide

theorem witness_Stop :
    Ready (walking .shift) ∧ (latched (walking .shift)).pc.protect = true ∧ (walking .shift).pc.protect = false ∧
    (walking .swing).ssq.phase = .swing ∧ (walking .swing).pc.body = .walk ∧ (walking .pause).ssq.phase = .pause ∧
    Steady (walking .pause) ∧ (walking .pause).rxu.waiting = false ∧ holding.pc.body = .hold ∧ Ready holding ∧
    holding.pls.reseat = false ∧ Steady holding ∧ ({ holding with pls.reseat := true } : State).pls.reseat = true ∧
    Ready standing ∧ (inReflex .brace .wait).pc.body = .recover ∧ lying.pc.body = .rest ∧
    (withBody standing .unsettled).pc.body = .unsettled := by
  unfold Ready Steady; decide

theorem witness_Continue :
    Ready holding ∧ continueRefusal holding = none ∧ holding.ssq.next = some ⟨.lf, 1⟩ ∧ Steady holding ∧
    continueRefusal (latched holding) = some .latched ∧ continueRefusal (withBody holding .lowering) = some .busy ∧
    continueRefusal standing = some .state ∧ continueRefusal { holding with pls.reseat := true } = some .busy ∧
    continueRefusal { holding with rxu.pending := [⟨.slip, .rh⟩] } = some .state ∧
    continueRefusal { holding with tdu.body := 3 } = some .state ∧
    continueRefusal { holding with scu.attStale := true } = some .state ∧
    continueRefusal (lfIn holding .placing) = some .state ∧
    continueRefusal { holding with ssq.count := 0 } = some .state ∧
    continueRefusal { holding with ssq.next := some ⟨.rh, 2⟩, ssq.count := 1 } = none := by
  unfold Ready Steady; decide

theorem witness_StallsAndPauses :
    (walking .shift).pc.body = .walk ∧ (walking .shift).pc.protect = false ∧ Striding (walking .shift) ∧
    Steady (walking .shift) ∧ (walking .shift).rxu.waiting = false ∧ (walking .shift).ssq.stepping = some .lf ∧
    (walking .shift).ssq.phase = .shift ∧
    (let s := { walking .propel with ssq.index := 3 };
      Striding s ∧ Steady s ∧ s.ssq.phase = .propel ∧ s.ssq.stopMark = false ∧ s.ssq.index < 4) ∧
    (let s := { walking .pause with tdu.body := 2 };
      s.ssq.phase = .pause ∧ s.ssq.stopMark = false ∧ s.rxu.pending = [] ∧ s.tdu.body < 3 ∧
        s.scu.attStale = false) := by
  unfold Striding Steady; decide

/-- LF in a mode of the air, the other three legs standing, reflexes off. -/
def aloft (phase : Phase) (mode : LegMode) : State := { lfIn (walking phase) mode with rxu.re1 := false, rxu.re2 := false }

theorem oneLeg_aloft (phase : Phase) (mode : LegMode) : OneLegInAir (aloft phase mode) := by
  intro k l hk hl
  have only : ∀ j, (aloft phase mode).inAir j → j = .lf := by
    intro j hj
    cases j <;> first | rfl | (exfalso; revert hj; unfold State.inAir; cases phase <;> cases mode <;> decide)
  rw [only k hk, only l hl]

theorem witness_SwingsThatTimeOut :
    (let s := aloft .swing .swing;
      s.ssq.phase = .swing ∧ s.ssq.stepping = some .lf ∧ s.pc.protect = false ∧ s.pc.body.standing = true ∧
        (s.link .lf).withdrawn = false ∧ s.rxu.re1 = false ∧ s.modeOf .lf = .swing ∧ OneLegInAir s ∧
        StanceSetCurrent s) ∧
    (let s := { aloft .place .swing with pls.placement := some .lf, pls.sub := .reswing, pls.attempt := 1 };
      s.pls.placement = some .lf ∧ s.pls.sub = .reswing ∧ s.pc.protect = false ∧ (s.link .lf).link ≠ .lost ∧
        s.pc.body.standing = true ∧ (s.link .lf).withdrawn = false ∧ s.rxu.re1 = false ∧ s.modeOf .lf = .swing ∧
        OneLegInAir s ∧ StanceSetCurrent s) := by
  refine ⟨⟨rfl, rfl, rfl, rfl, rfl, rfl, rfl, oneLeg_aloft .swing .swing, fun l => ?_⟩, rfl, rfl, rfl, by decide, rfl,
    rfl, rfl, rfl, oneLeg_aloft .place .swing, fun l => ?_⟩
  · cases l <;> decide
  · cases l <;> decide

/-! ## Witnesses: placements and reseats -/

/-- A placement of LF under way from an entry with one alternate. -/
def placing : State :=
  let entry : Foothold := { tag := 3, dx := 10, dy := 0, dz := 0, alternates := [⟨15, -15⟩], contact := none, inUse := true }
  { aloft .place .placing with
    pls.placement := some .lf, pls.sub := .lower, pls.entry := some entry, pls.target := footPoint .lf,
    pls.attemptTarget := footPoint .lf, pls.maxReplace := 1, pls.liftClearance := 120, pls.placeTimer := some 0,
    fhq := State.reset.fhq.set .lf { entries := [entry], consumed := none, discarded := none } }

theorem witness_ThePlaceTimer :
    placing.pls.placement = some .lf ∧ placing.pls.sub = .lower ∧ placing.pc.protect = false ∧
    OneLegInAir placing ∧ StanceSetCurrent placing ∧ placing.modeOf .lf = .placing ∧ (placing.link .lf).link ≠ .lost ∧
    placing.pls.attempt < placing.pls.maxReplace ∧
    (let s := { placing with pls.attempt := 1, ssq.index := 3 };
      s.pls.maxReplace ≤ s.pls.attempt ∧ Striding s ∧ s.pc.body = .walk ∧ (s.link .lf).withdrawn = false ∧
        s.rxu.re1 = false ∧ s.rxu.waiting = false ∧ s.ssq.stopMark = false ∧ Steady s ∧ s.ssq.index < 4) ∧
    (∀ e, placing.pls.entry = some e → e.alternates[0]? = some ⟨15, -15⟩ ∧ e.alternates.length < 2) := by
  refine ⟨rfl, rfl, rfl, oneLeg_aloft .place .placing, fun l => ?_, rfl, by decide, by decide, ?_, ?_⟩
  · cases l <;> decide
  · unfold Striding Steady; decide
  · intro e h; cases h; decide

theorem witness_Reseat :
    Ready standing ∧ (latched standing).pc.protect = true ∧ (walking .shift).pc.body = .walk ∧
    lying.pc.body = .rest ∧ ({ standing with pls.reseat := true } : State).pls.reseat = true ∧
    standing.pc.body = .stand ∧ standing.pls.reseat = false ∧
    ((lfIn standing .stance).link .lf).withdrawn = false ∧ (lfIn standing .stance).verifiedOf .lf = false ∧
    (∀ l ∈ Leg.all, ¬ ((standing.link l).withdrawn = false ∧
      (standing.verifiedOf l = false ∨ ¬ standing.loadedAt standing.contactInForce l = true))) := by
  unfold Ready; decide

/-- A reseat of LF in its SHIFT, begun in a body state. -/
def reseating (b : BodyState) : State :=
  { lfIn (withBody standing b) .limp with
    pls.reseat := true, pls.origin := b.origin, pls.reseatSet := [.lf], pls.reseatLeg := some .lf, ssq.phase := .shift,
    ssq.stepping := some .lf, ssq.phaseTimer := some 1999, ssq.count := 2 }

theorem witness_ReseatEnds :
    (∀ s ∈ [holding, withBody standing .unsettled], Ready s ∧ s.pc.protect = false ∧ s.pls.reseat = false ∧
      (s.pc.body = .hold ∨ s.pc.body = .unsettled) ∧ Steady s ∧ s.rxu.waiting = false ∧
      ∀ l ∈ Leg.all, ¬ ((s.link l).withdrawn = false ∧
        (s.verifiedOf l = false ∨ ¬ s.loadedAt s.contactInForce l = true))) ∧
    (∀ b ∈ [BodyState.stand, .hold, .unsettled], (reseating b).pls.reseat = true ∧ (reseating b).rxu.running = none ∧
      (reseating b).ssq.phase = .shift ∧ (reseating b).ssq.stepping = some .lf ∧ (reseating b).pc.protect = false ∧
      (reseating b).pc.body = b ∧ (reseating b).pls.origin = (reseating b).pc.body.origin ∧ Steady (reseating b) ∧
      (reseating b).rxu.waiting = false) := by
  unfold Ready Steady; decide

/-! ## Witnesses: legs -/

theorem witness_Calibrate :
    Ready lying ∧ calibrateRefusal lying 3 = none ∧ Leg.ofIndex? (3 : Byte).toNat = some .rh ∧
    calibrateRefusal (latched lying) 0 = some .latched ∧ calibrateRefusal lying 4 = some .range ∧
    calibrateRefusal (linkIn lying .lf fun k => { k with withdrawn := true }) 0 = some .absent ∧
    calibrateRefusal (withBody lying .rising) 0 = some .busy ∧ calibrateRefusal standing 0 = some .state ∧
    calibrateRefusal (linkIn lying .lf fun k => { k with calib := .settle }) 0 = some .busy ∧
    calibrateRefusal (linkIn lying .lf fun k => { k with link := .lost }) 0 = some .state ∧
    lying.pc.body = .rest ∧
    ((linkIn lying .lf fun k => { k with calib := .awaitBusy }).link .lf).calib = .awaitBusy ∧
    ((linkIn lying .lf fun k => { k with calib := .settle }).link .lf).calib = .settle := by
  unfold Ready; decide

theorem witness_Withdraw :
    Ready lying ∧ withdrawRefusal lying 2 = none ∧ Leg.ofIndex? (2 : Byte).toNat = some .lh ∧
    withdrawRefusal (latched lying) 0 = some .latched ∧ withdrawRefusal lying 4 = some .range ∧
    withdrawRefusal (linkIn lying .lf fun k => { k with withdrawn := true }) 0 = some .absent ∧
    withdrawRefusal holding 0 = some .state ∧ withdrawRefusal (walking .shift) 0 = some .busy ∧
    withdrawRefusal { standing with pls.reseat := true } 0 = some .busy ∧
    withdrawRefusal (linkIn lying .lf fun k => { k with calib := .settle }) 0 = some .busy ∧
    withdrawRefusal standing 0 = some .margin ∧ Ready standing ∧
    withdrawRefusal (withBody shifting .stand) 0 = none ∧ Ready (withBody shifting .stand) ∧
    Status.range ≠ .margin := by
  unfold Ready; decide

/-- LF withdrawn, LIMP, in a body state. -/
def without (b : BodyState) : State :=
  lfIn (linkIn (withBody standing b) .lf fun k => { k with withdrawn := true }) .limp

theorem witness_AdmitRefused :
    Ready (latched (without .stand)) ∧ (latched (without .stand)).pc.protect = true ∧ 3 < (4 : Byte).toNat ∧
    (∀ b ∈ [BodyState.rest, .stand, .hold, .unsettled, .walk],
      let s := { without b with pls.reseat := true }
      Ready s ∧ s.pc.protect = false ∧ s.pls.reseat = true ∧ s.pc.body = b) := by
  unfold Ready; decide

theorem witness_Admit :
    Ready (without .stand) ∧ (without .stand).pc.protect = false ∧ (without .stand).pls.reseat = false ∧
    (standing.link .lf).withdrawn = false ∧ ((without .stand).link .lf).withdrawn = true ∧
    ((linkIn (without .stand) .lf fun k => { k with link := .lost }).link .lf).link ≠ .ok ∧
    (without .stand).modeOf .lf = .limp ∧ (without .stand).verifiedOf .lf = false ∧
    ((without .stand).link .lf).link = .ok ∧ (without .rest).pc.body = .rest ∧ (without .hold).pc.body = .hold ∧
    (without .walk).pc.body = .walk ∧ StanceSetCurrent (without .stand) ∧ StanceSetCurrent (without .rest) := by
  refine ⟨⟨rfl, rfl, rfl⟩, rfl, rfl, by decide, by decide, by decide, by decide, by decide, by decide, rfl, rfl, rfl,
    fun l => ?_, fun l => ?_⟩
  · cases l <;> decide
  · cases l <;> decide

/-! ## Witnesses: footholds -/

def entryAt (tag : Nat) (dx : Int) : Foothold :=
  { tag := tag, dx := dx, dy := 0, dz := 0, alternates := [⟨-20, 20⟩, ⟨20, 0⟩, ⟨21, 0⟩], contact := some 65535,
    inUse := false }

/-- LF's queue full with tags 0 to 7, or empty but for an entry in use. -/
def queued (entries : List Foothold) : State :=
  { standing with fhq := State.reset.fhq.set .lf { entries := entries, consumed := none, discarded := none } }

theorem witness_Plan :
    Ready (queued []) ∧ (∀ e ∈ [entryAt 255 32767, entryAt 0 (-32768)], spelled e) ∧
    1 ≤ [entryAt 255 32767].length ∧ (List.replicate 8 (entryAt 1 0)).length ≤ 8 ∧
    (latched standing).pc.protect = true ∧ 3 < (4 : Byte).toNat ∧ (3 : Byte).toNat = Leg.rh.index ∧
    ((linkIn standing .rh fun k => { k with withdrawn := true }).link .rh).withdrawn = true ∧
    8 < ((queued ((List.range 8).map fun i => entryAt i 0)).queueOf .lf).entries.length + 1 ∧
    ((queued ((List.range 7).map fun i => entryAt i 0)).queueOf .lf).entries.length + 1 ≤ 8 ∧
    ¬ ([entryAt 1 0, entryAt 1 5].map Foothold.tag).Nodup ∧ ([entryAt 1 0, entryAt 2 5].map Foothold.tag).Nodup := by
  unfold Ready spelled; decide

theorem witness_QueueRefusals :
    Ready (latched standing) ∧ (latched standing).pc.protect = true ∧ Ready standing ∧ standing.pc.protect = false ∧
    3 < (4 : Byte).toNat ∧ (0 : Byte).toNat = Leg.lf.index ∧ ((without .stand).link .lf).withdrawn = true ∧
    Ready (without .stand) ∧ (without .stand).pc.protect = false ∧ (standing.link .lf).withdrawn = false := by
  unfold Ready; decide

theorem witness_UnplanAndSwap :
    (let s := queued [{ entryAt 4 0 with inUse := true, contact := none, alternates := [] }, { entryAt 5 0 with contact := none, alternates := [] }];
      Ready s ∧ s.pc.protect = false ∧ (s.link .lf).withdrawn = false ∧ QueueSound (s.queueOf .lf) ∧
        (∀ e ∈ (s.queueOf .lf).entries, e.tag ≠ (6 : Byte).toNat) ∧
        (∃ e ∈ (s.queueOf .lf).entries, e.tag = (4 : Byte).toNat ∧ e.inUse = true) ∧
        (∃ e ∈ (s.queueOf .lf).entries, e.tag = (5 : Byte).toNat ∧ e.inUse = false)) ∧
    spelled (entryAt 9 201) ∧ ((queued []).queueOf .lf).entries = [] ∧
    (let rest := [entryAt 5 0]; (∃ f ∈ rest, f.tag = (entryAt 5 1).tag) ∧ ∀ f ∈ rest, f.tag ≠ (entryAt 9 201).tag) := by
  unfold Ready QueueSound spelled; decide

/-! ## Witnesses: slip -/

theorem witness_Deviations :
    (windowed.slipOf .lf).length ≠ 0 ∧ windowed.slm.store.length = 64 ∧ WindowSound (windowed.slipOf .lf) ∧
    (windowed.slipOf .lf).next + 1 = (windowed.slipOf .lf).start + (windowed.slipOf .lf).length ∧
    WindowSound (windowed.slipOf .rf) ∧ (windowed.slipOf .rh).length = 0 := by
  unfold WindowSound; decide

/-! ## Witnesses: reflexes -/

theorem witness_Causes :
    lying.pc.body.standing = false ∧ ((without .stand).link .lf).withdrawn = true ∧ standing.pc.body.standing = true ∧
    (standing.link .lf).withdrawn = false ∧ (latched standing).pc.protect = true ∧
    ({ standing with rxu.crouch := .crouched } : State).rxu.crouch ≠ .clear ∧
    ({ standing with rxu.re1 := false } : State).rxu.re1 = false ∧
    (let s := linkIn standing .rh fun k => { k with last := some (reportOf (footPoint .rh) 59) };
      s.pc.body = .stand ∧ (s.link .rh).withdrawn = false ∧ s.pc.protect = false ∧ s.rxu.crouch = .clear ∧
        s.rxu.re1 = true ∧ s.pls.reseat = false ∧ s.rxu.running = none ∧ s.rxu.stack = [] ∧
        s.zone.select = .fixed ∧ s.reseatFailing ≠ [] ∧ Steady s) := by
  unfold Steady; decide

/-- A reflex inside three others, with RE1 at 1 again. -/
def nested : State :=
  let s := inReflex .brace .wait
  { s with rxu.stack := (List.replicate 3 (s.rxu.running.map Context.recover)).reduceOption ++ [.stand], rxu.re1 := true }

/-- The same with no foot on the ground. -/
def nestedAloft : State := { nested with ssq.verified := .all false, scu.stance := .all false }

theorem witness_Overflow :
    (∀ s ∈ [nested, nestedAloft], s.pc.protect = false ∧ s.rxu.crouch = .clear ∧ 4 ≤ s.rxu.stack.length ∧
      s.pc.body.standing = true ∧ (s.link .lf).withdrawn = false ∧ s.rxu.re1 = true) ∧
    nested.modeOf .lf = .stance ∧ (∀ k, nestedAloft.inStance k = false) ∧ StanceSetCurrent nestedAloft := by
  refine ⟨by decide, by decide, fun k => ?_, fun l => ?_⟩
  · cases k <;> decide
  · cases l <;> decide

/-- R158, R154: OVERFLOW, PROTECT, and one HELD as the second foot leaves. -/
theorem test_overflow :
    (let t := nested.raiseCause .slip .lf
     t.hli.notes == [.fault .overflow (some .lf) (some (.cause .slip)), .fault .protect none none,
       .reflex .held .tip none none 4] && t.rxu.dropped == 2 && t.rxu.stack.length == 4 && t.rxu.re1) = true := by decide

/-- A zone with TABLE selection in force, and a BRACE of 40 for every OVERLOAD. -/
def tabled : State :=
  { standing with ztb.entries := standing.ztb.entries.set 0 { ZoneEntry.blank with valid := true, limit := 9000, params.select := .table },
                  ztb.inForce := 0 }

/-- R149: 40 mm up is within the crouch height, and from 20 below it only 20. -/
theorem witness_BraceTaken :
    (tabled.pc.body = .stand ∧ (tabled.link .lf).withdrawn = false ∧ tabled.pc.protect = false ∧
      tabled.rxu.crouch = .clear ∧ tabled.rxu.re1 = true ∧ tabled.pls.reseat = false ∧ tabled.rxu.running = none ∧
      tabled.rxu.stack = [] ∧ tabled.zone.select = .table ∧ (tabled.rxu.table.get .overload).get .lf = ⟨.brace, 40⟩ ∧
      Steady tabled) ∧
    ((tabled.raiseCause .overload .lf).cmdOf .rh).target.z = -380 ∧
    (({ tabled with pc.geom.crouch := -400 } : State).raiseCause .overload .lf |>.cmdOf .rh).target.z = -400 := by
  unfold Steady; decide

theorem witness_Reflexes :
    Ready standing ∧ (latched standing).pc.protect = true ∧ standing.pc.protect = false ∧ standing.rxu.re1 = true ∧
    (let s := { walking .shift with rxu.re1 := false }; Ready s ∧ s.rxu.re1 = false ∧ s.pc.body = .walk) ∧
    (inReflex .brace .wait).pc.body = .recover ∧ Ready (inReflex .brace .wait) ∧
    (let s := { standing with rxu.re1 := false };
      s.rxu.re1 = false ∧ s.pc.body ≠ .walk ∧ s.pc.body ≠ .recover ∧ s.rxu.pending = []) ∧
    (let s := { lying with rxu.re1 := false, rxu.pending := [⟨.overload, .lf⟩] };
      Ready s ∧ s.rxu.re1 = false ∧ s.pc.body ≠ .walk ∧ s.pc.body ≠ .recover ∧ s.pc.body.standing = false) := by
  unfold Ready; decide

/-- Two causes wait in STAND, reflexes off. -/
def waited : State := { tabled with rxu.re1 := false, rxu.pending := [⟨.overload, .lf⟩, ⟨.unload, .rh⟩] }

theorem witness_RiseTakesTheOldest :
    Ready waited ∧ waited.pc.protect = false ∧ waited.rxu.re1 = false ∧ waited.pc.body = .stand ∧
    waited.rxu.crouch = .clear ∧ waited.rxu.pending = [⟨.overload, .lf⟩, ⟨.unload, .rh⟩] ∧
    (waited.link .lf).withdrawn = false ∧ waited.pls.reseat = false ∧ waited.rxu.running = none ∧
    waited.rxu.stack = [] ∧ waited.zone.select = .table ∧ (waited.rxu.table.get .overload).get .lf = ⟨.brace, 40⟩ ∧
    Steady waited := by
  unfold Ready Steady; decide

/-- A crouched body over one context. -/
def crouchedOver (bottom : Context) : State :=
  { inReflex .crouch .crouch with rxu.stack := [bottom], rxu.crouch := .crouched,
                                  rxu.pending := [⟨.placeFail, .lf⟩, ⟨.overload, .rf⟩], rxu.re2 := false }

theorem witness_ActivityStaysSound_crouched : ActivitySound (crouchedOver .stand) :=
  ⟨by decide, by decide, by decide, by decide, by decide, (fun h => absurd rfl h), (fun h => by cases h),
    (fun _ => ⟨_, rfl, rfl, rfl⟩), fun h => by cases h⟩

theorem witness_Resume :
    (let s := crouchedOver .stand;
      Ready s ∧ s.pc.protect = false ∧ s.pc.body = .recover ∧ s.rxu.crouch = .crouched ∧ s.tipHolds = false ∧
        s.rxu.re2 = false ∧ s.rxu.stack.getLast? = some .stand) ∧
    (crouchedOver .unsettled).rxu.stack.getLast? = some .unsettled ∧
    (crouchedOver (.hold (some ⟨.lf, 2⟩) 3 .backward)).rxu.stack.getLast? = some (.hold (some ⟨.lf, 2⟩) 3 .backward) ∧
    (latched (crouchedOver .stand)).pc.protect = true ∧ (withBody standing .rising).pc.body = .rising ∧
    standing.pc.body ≠ .rising ∧ standing.pc.body ≠ .lowering ∧ standing.rxu.crouch ≠ .crouched := by
  unfold Ready; decide

/-- A RESUME over a walk in each of its phases, and over a reseat of each origin. -/
theorem witness_ResumeWalkAndReseat :
    (∀ c ∈ [Context.walk (some .lf) 1 .shift 2 .forward 0, .walk none 1 .pause 2 .backward 0,
        .walk (some .rh) 2 .propel 2 .forward 0, .walk (some .lh) 4 .propel 2 .forward 0,
        .walk (some .lh) 4 .propel 1 .forward 0, .reseat .unsettled 1 2 .forward none 0, .reseat .stand 4 0 .forward none 0,
        .reseat .hold 2 2 .forward (some ⟨.lf, 1⟩) 1],
      let s := crouchedOver c
      Ready s ∧ s.pc.protect = false ∧ s.pc.body = .recover ∧ s.rxu.crouch = .crouched ∧ s.tipHolds = false ∧
        s.rxu.re2 = false ∧ s.rxu.stack.getLast? = some c) ∧
    walkHeld standing .lf 1 2 .shift = (.hold, some ⟨.lf, 1⟩, 2) ∧ walkHeld standing .lh 4 1 .propel = (.stand, none, 0) := by
  unfold Ready; decide

/-- A reflex at a stage over one context, LF in its SHIFT. -/
def interrupting (kind : Kind) (stage : Stage) (c : Context) : State :=
  { inReflex kind stage with rxu.stack := [c], ssq.phase := .shift, ssq.stepping := some .lf }

theorem witness_StagesOverContexts :
    (∀ c ∈ [Context.stand, .unsettled, .hold (some ⟨.lf, 2⟩) 3 .backward, .walk (some .lf) 1 .shift 2 .forward 0,
        .walk (some .lf) 2 .swing 2 .forward 0, .walk (some .rh) 4 .propel 1 .forward 0, .walk none 1 .pause 2 .forward 0,
        .reseat .stand 4 0 .forward none 0, .reseat .hold 3 2 .forward none 0],
      (let s := { interrupting .brace .wait c with ssq.verified := ⟨true, true, true, false⟩ }
       (∃ r, s.rxu.running = some r ∧ r.stage = .wait) ∧ s.pc.protect = false ∧ s.pc.body = .recover ∧
         s.rxu.pending = [] ∧ s.tipHolds = false ∧ s.rxu.stack = [c] ∧ s.reseatFailing = [.rh]) ∧
      (let s := interrupting .reseatOne .reseat c
       (∃ r, s.rxu.running = some r ∧ r.stage = .reseat) ∧ s.ssq.phase = .shift ∧ s.ssq.stepping = some .lf ∧
         s.pc.protect = false ∧ s.pc.body = .recover ∧ s.rxu.pending = [] ∧ s.tipHolds = false ∧ s.rxu.stack = [c])) := by
  intro c _
  refine ⟨⟨⟨_, rfl, rfl⟩, ?_⟩, ⟨_, rfl, rfl⟩, ?_⟩
  · exact ⟨rfl, rfl, rfl, by rfl, rfl, by rfl⟩
  · exact ⟨rfl, rfl, rfl, rfl, rfl, by rfl, rfl⟩

theorem witness_ReflexStages :
    (let s := inReflex .brace .wait;
      (∃ r, s.rxu.running = some r ∧ r.stage = .wait) ∧ s.pc.protect = false ∧ s.rxu.stack = [.stand] ∧
        s.pc.body = .recover ∧ s.rxu.pending = [] ∧ s.tipHolds = false) ∧
    (let s := { inReflex .crouch .crouch with rxu.crouch := .running, rxu.crouching := ⟨true, true, true, false⟩ };
      s.rxu.crouch = .running ∧ s.pc.protect = false ∧
        3 ≤ (Leg.all.filter fun l => s.rxu.crouching.get l && s.loadedAt s.zone.surface.contact l).length) ∧
    (let s := { inReflex .crouch .crouch with rxu.crouch := .running, rxu.crouching := ⟨true, true, false, false⟩ };
      (Leg.all.filter fun l => s.rxu.crouching.get l && s.loadedAt s.zone.surface.contact l).length < 3 ∧
        s.modeOf .lf = .stance ∧ (lfIn s .limp).modeOf .lf = .limp) ∧
    (let s := lfIn (inReflex .retract .lift) .swing;
      (∃ r, s.rxu.running = some r ∧ r.stage = .lift ∧ r.leg = some .lf) ∧ s.pc.protect = false ∧
        s.rxu.waiting = false ∧ s.rxu.re1 = false ∧ s.pc.body = .recover ∧ (s.link .lf).withdrawn = false ∧
        s.modeOf .lf = .swing ∧ OneLegInAir s ∧ StanceSetCurrent s) := by
  refine ⟨⟨⟨_, rfl, rfl⟩, by decide⟩, by decide, by decide, ⟨_, rfl, rfl, rfl⟩, rfl, rfl, rfl, rfl, rfl, rfl,
    oneLeg_aloft .idle .swing, fun l => ?_⟩
  cases l <;> decide

/-! ## Witnesses: leg links and temperatures -/

theorem witness_CommandsAndMisses :
    (standing.link .lf).awaiting = false ∧
    ((linkIn standing .lf fun k => { k with refresh := some 5 }).link .lf).refresh ≠ none ∧
    (let k := (linkIn standing .lf fun k => { k with awaiting := true, refresh := some 5, miss := 1 }).link .lf;
      k.awaiting = true ∧ k.refresh ≠ none ∧ k.sendWaiting = false ∧ k.link ≠ .lost ∧ k.miss < 2) ∧
    (let k := (linkIn standing .lf fun k => { k with awaiting := true, link := .lost }).link .lf;
      k.awaiting = true ∧ k.sendWaiting = false ∧ k.link = .lost) ∧
    (let k := (linkIn standing .lf fun k => { k with awaiting := true, miss := 2 }).link .lf;
      k.awaiting = true ∧ k.link ≠ .lost ∧ k.miss = 2) := by decide

theorem witness_Reports :
    (standing.link .lf).awaiting = false ∧
    ((linkIn standing .lf fun k => { k with awaiting := true }).link .lf).awaiting = true ∧
    judgeReport [] = .miss ∧ judgeReport (recordOf ⟨2001, 0, 0⟩ 0 0 0 0) = .miss ∧
    judgeReport (recordOf ⟨2000, -2000, -420⟩ 150 40 0 0) = .good (reportOf ⟨2000, -2000, -420⟩ 150) ∧
    (standing.link .lf).link ≠ .lost := by decide +kernel

/-- LF's exchange runs. -/
def asked (s : State) : State := linkIn s .lf fun k => { k with awaiting := true }

/-- A report of LF over its hip at a height, with a force. -/
def lfAt (z force : Int) : Report := reportOf ⟨300, 200, z⟩ force

/-- R178, R179: the bounds of a band and of a fall point, on the worked values of the rules. -/
theorem test_warmed :
    warmed ⟨0, none, none⟩ 97 = ⟨3, some 0, some 97⟩ ∧ warmed ⟨0, none, none⟩ 69 = ⟨0, none, some 69⟩ ∧
    warmed ⟨1, some 5, none⟩ 70 = ⟨1, some 5, some 70⟩ ∧ warmed ⟨1, some 5, none⟩ 85 = ⟨2, some 0, some 85⟩ ∧
    warmed ⟨1, none, none⟩ 65 = ⟨0, some 0, some 65⟩ ∧ warmed ⟨1, none, none⟩ 68 = ⟨1, none, some 68⟩ ∧
    warmed ⟨3, none, none⟩ 40 = ⟨2, some 0, some 40⟩ := by decide

theorem witness_ReportsOfHeat :
    (let s := asked lying
     let r := { lfAt (-420) 0 with temp := 97 }
     reports s .lf (recordOf ⟨300, 200, -420⟩ 0 97 0 0) r ∧ s.pc.body = .rest ∧ s.inStance .lf = false ∧
       s.rxu.liftTimer = none ∧ s.ssq.phase = .idle ∧ s.pls.placement = none ∧ LevelsSound s ∧ (s.link .lf).link ≠ .lost ∧
       after (.legReportArrival .lf (recordOf ⟨300, 200, -420⟩ 0 97 0 0)) s
         (fun t => t.tdu.body == 3 && t.hli.notes == [.heat 0 3 ⟨3, 0, 0, 0⟩ false .leg]) = true) := by
  refine ⟨⟨by decide, by decide +kernel, by decide, by decide, by decide, rfl, rfl, by decide, rfl, rfl, fun l => ?_⟩,
    rfl, rfl, rfl, rfl, rfl, ⟨fun l => ?_, by decide⟩, by decide, by decide +kernel⟩
  · cases l <;> decide
  · cases l <;> decide

theorem stanceSet_standing (b : BodyState) : StanceSetCurrent (asked (withBody standing b)) := fun l => by
  cases l <;> cases b <;> decide

theorem reports_standing (b : BodyState) (z force : Int)
    (h : judgeReport (recordOf ⟨300, 200, z⟩ force 40 0 0) = .good (lfAt z force)) :
    reports (asked (withBody standing b)) .lf (recordOf ⟨300, 200, z⟩ force 40 0 0) (lfAt z force) :=
  ⟨by cases b <;> decide, h, by cases b <;> decide, by cases b <;> decide, by cases b <;> decide, rfl, rfl,
    by cases b <;> decide, rfl, rfl, stanceSet_standing b⟩

/-- Rising, only LF still to be found at the stand height; lowering, every foot at its last height. -/
def risen : State := { asked (withBody standing .rising) with pc.roseReported := ⟨false, true, true, true⟩ }

def lowering : State :=
  { asked (withBody standing .lowering) with
    pc.lowered := .all true,
    llc := (asked standing).llc.map fun k => { k with last := some (reportOf ⟨0, 0, -150⟩ 150) } }

theorem witness_ReportsEndPostures :
    (∃ r record, reports risen .lf record r ∧ risen.pc.body = .rising ∧ risen.rxu.stack = [] ∧
      risen.rxu.waiting = false ∧ (∀ k, k ≠ .lf → risen.pc.roseReported.get k = true ∧ (risen.link k).link = .ok ∧
        risen.footOf k = footPoint k) ∧ (r.z - risen.pc.geom.stand).natAbs ≤ 10 ∧
      risen.zone.surface.contact ≤ r.force) ∧
    (∃ r record, reports risen .lf record r ∧ (r.z - risen.pc.geom.stand).natAbs > 10) ∧
    (∃ r record, reports lowering .lf record r ∧ lowering.pc.body = .lowering ∧ lowering.pc.lowered.get .lf = true ∧
      (r.z + 150).natAbs ≤ 10) := by
  refine ⟨⟨lfAt (-420) 150, recordOf ⟨300, 200, -420⟩ 150 40 0 0, ⟨by decide, by decide +kernel, by decide, by decide, by decide, rfl, rfl, by decide, rfl, rfl,
      stanceSet_standing .rising⟩, rfl, rfl, rfl, fun k hk => ?_, by decide, by decide⟩,
    ⟨lfAt (-400) 150, recordOf ⟨300, 200, -400⟩ 150 40 0 0, ⟨by decide, by decide +kernel, by decide, by decide, by decide, rfl, rfl, by decide, rfl, rfl,
      stanceSet_standing .rising⟩, by decide⟩,
    ⟨lfAt (-160) 150, recordOf ⟨300, 200, -160⟩ 150 40 0 0, ⟨by decide, by decide +kernel, by decide, by decide, by decide, rfl, rfl, by decide, rfl, rfl,
      fun l => ?_⟩, rfl, by decide, by decide⟩⟩
  · cases k <;> first | exact absurd rfl hk | decide
  · cases l <;> decide

theorem stanceSet_aloft (phase : Phase) (mode : LegMode) (h : mode ≠ .stance) :
    StanceSetCurrent (asked (aloft phase mode)) := fun l => by
  cases mode <;> first | exact absurd rfl h | (cases l <;> cases phase <;> decide)

/-- LF swings in a step, is placed, and propels with the others. -/
theorem witness_ReportsMoveTheWalk :
    (let s := asked (aloft .swing .swing)
     let record := recordOf ⟨300, 200, -420⟩ 0 40 1 0
     reports s .lf record { lfAt (-420) 0 with swingDone := true } ∧ s.ssq.phase = .swing ∧ s.ssq.stepping = some .lf ∧
       s.modeOf .lf = .swing ∧ s.rxu.liftTimer = none ∧ s.pc.body.standing = true ∧ OneLegInAir s) ∧
    (let s := asked placing
     reports s .lf (recordOf ⟨300, 200, -420⟩ 150 40 0 0) (lfAt (-420) 150) ∧ s.pls.placement = some .lf ∧
       s.pls.sub = .lower ∧ s.modeOf .lf = .placing ∧ s.ssq.phase = .place ∧ walksOn s ∧ s.rxu.liftTimer = none ∧
       OneLegInAir s ∧ (s.pls.entry.bind Foothold.contact).getD s.pls.surface.contact ≤ 150 ∧
       s.pls.attemptTarget = ⟨300, 200, -420⟩ ∧ 0 ≤ s.pls.surface.tolerance ∧ s.tdu.body < 3 ∧
       s.pls.entry.isSome = true) ∧
    (let s := asked (walking .propel)
     reports s .lf (recordOf ⟨300, 200, -420⟩ 150 40 0 0) (lfAt (-420) 150) ∧ s.ssq.phase = .propel ∧
       s.inStance .lf = true ∧ walksOn s ∧ s.pls.placement = none ∧ s.zone.surface.unloadLimit ≤ 150 ∧
       (s.cmdOf .lf).target = ⟨300, 200, -420⟩ ∧ settled s ∧
       s.ssq.index ≠ 4 ∧ ({ s with ssq.index := 4 } : State).ssq.index = 4 ∧ 1 < s.ssq.count ∧
       ({ s with ssq.count := 1 } : State).ssq.count ≤ 1 ∧ ({ s with tdu.body := 2 } : State).tdu.body = 2) := by
  unfold walksOn Striding
  refine ⟨⟨⟨by decide, by decide +kernel, by decide, by decide, by decide, rfl, rfl, by decide, rfl, rfl,
      stanceSet_aloft .swing .swing (by decide)⟩, rfl, rfl, rfl, rfl, rfl, oneLeg_aloft .swing .swing⟩,
    ⟨⟨by decide, by decide +kernel, by decide, by decide, by decide, rfl, rfl, by decide, rfl, rfl,
      stanceSet_aloft .place .placing (by decide)⟩, rfl, rfl, rfl, rfl, by decide, rfl, oneLeg_aloft .place .placing,
      by decide⟩,
    ⟨⟨by decide, by decide +kernel, by decide, by decide, by decide, rfl, rfl, by decide, rfl, rfl, fun l => ?_⟩, rfl,
      by decide, by decide, rfl, by decide, by decide, fun k => ?_, by decide⟩⟩
  · cases l <;> decide
  · cases k <;> decide

/-- A window of LF that is on, reflexes off, and one report of low force already counted. -/
def slackened : State :=
  asked { windowed with rxu.re1 := false, slm.legs := windowed.slm.legs.modify .lf fun k => { k with lowForce := 1 } }

/-- Deviations and forces at the ends of their ranges, on SOLID: 20 mm from the target and 21. -/
theorem witness_StanceReports :
    (let s := asked standing
     s.inStance .lf = true ∧ s.pc.body.standing = true ∧ s.rxu.running = none ∧ s.rxu.stack = [] ∧
       s.rxu.waiting = false ∧ s.pls.placement = none ∧ (s.slipOf .lf).steady = true ∧ s.slipThreshold = 20 ∧
       reports s .lf (recordOf ⟨320, 200, -420⟩ 150 40 0 0) (reportOf ⟨320, 200, -420⟩ 150) ∧
       reports s .lf (recordOf ⟨320, 201, -420⟩ 150 40 0 0) (reportOf ⟨320, 201, -420⟩ 150) ∧
       reports s .lf (recordOf ⟨300, 200, -420⟩ 0 40 0 0) (lfAt (-420) 0) ∧ s.zone.surface.unloadLimit ≤ 150 ∧
       (0 : Int) < s.zone.surface.unloadLimit ∧ (s.slipOf .lf).lowForce = 0 ∧ (s.slipOf .lf).length = 0 ∧
       (s.slipOf .lf).slip = false) ∧
    (let s := slackened
     reports s .lf (recordOf ⟨300, 200, -420⟩ 0 40 0 0) (lfAt (-420) 0) ∧ s.inStance .lf = true ∧
       s.pc.body.standing = true ∧ s.rxu.running = none ∧ s.rxu.stack = [] ∧ s.rxu.waiting = false ∧
       s.pls.placement = none ∧ (0 : Int) < s.zone.surface.unloadLimit ∧ (s.slipOf .lf).lowForce = 1 ∧
       s.rxu.re1 = false ∧ (s.slipOf .lf).length ≠ 0 ∧ s.slm.store.length = 64 ∧ WindowSound (s.slipOf .lf)) ∧
    (let s := asked { standing with rxu.re1 := false }
     reports s .lf (recordOf ⟨320, 201, -420⟩ 150 40 0 0) (reportOf ⟨320, 201, -420⟩ 150) ∧ s.rxu.re1 = false ∧
       (s.slipOf .lf).steady = true ∧ (s.slipOf .lf).length = 0 ∧ (s.slipOf .lf).slip = false) := by
  have ok : ∀ record r, judgeReport record = .good r → r.obstruct = false → r.overload = false →
      reports (asked standing) .lf record r := fun record r h ho hv =>
    ⟨by decide, h, by decide, by decide, by decide, ho, hv, by decide, rfl, rfl, stanceSet_standing .stand⟩
  refine ⟨⟨by decide, by decide, rfl, rfl, rfl, rfl, by decide, by decide, ok _ _ (by decide +kernel) rfl rfl,
    ok _ _ (by decide +kernel) rfl rfl, ok _ _ (by decide +kernel) rfl rfl, by decide⟩,
    ⟨⟨by decide, by decide +kernel, by decide, by decide, by decide, rfl, rfl, by decide, rfl, rfl, fun l => ?_⟩,
      by decide, by decide, rfl, rfl, rfl, rfl, by decide, by decide, rfl, by decide, by decide, ?_⟩,
    ⟨⟨by decide, by decide +kernel, by decide, by decide, by decide, rfl, rfl, by decide, rfl, rfl, fun l => ?_⟩, rfl,
      by decide⟩⟩
  · cases l <;> decide
  · unfold WindowSound; decide
  · cases l <;> decide

/-- Just after a warm reset of a body that was up: every leg in HOLD, none reported yet. -/
def warm : State :=
  { withBody standing .unsettled with
    ssq.cmd := .tab fun l => { mode := .hold, target := footPoint l, clearance := 0 }, ssq.verified := .all false,
    scu.stance := .all false, scu.survey := true, pc.awaitFirst := .all true }

/-- A CROUCH that waits for LF alone to reach the crouch height. -/
def crouching : State :=
  { inReflex .crouch .crouch with
    rxu.crouch := .running, rxu.crouching := .all true,
    llc := standing.llc.map fun k => { k with last := some (reportOf ⟨0, 0, -300⟩ 150) } }

theorem witness_TakenReports :
    (let s := asked warm
     (s.link .lf).awaiting = true ∧ (s.link .lf).link = .ok ∧ s.pc.body = .unsettled ∧ s.scu.survey = true ∧
       s.pc.awaitFirst.get .lf = true ∧ (∃ k, k ≠ Leg.lf ∧ s.pc.awaitFirst.get k = true) ∧ s.modeOf .lf = .hold ∧
       s.ssq.phase = .idle ∧ s.pls.placement = none ∧ StanceSetCurrent s ∧
       judgeReport (recordOf ⟨300, 200, -420⟩ 60 40 0 0) = .good (lfAt (-420) 60) ∧
       judgeReport (recordOf ⟨300, 200, -420⟩ 59 40 0 0) = .good (lfAt (-420) 59)) ∧
    (let s := asked crouching
     s.rxu.crouch = .running ∧ s.rxu.crouching.get .lf = true ∧ s.pc.protect = false ∧ s.pc.body = .recover ∧
       s.pc.awaitFirst.get .lf = false ∧ StanceSetCurrent s ∧ (s.link .lf).link = .ok ∧
       judgeReport (recordOf ⟨300, 200, -310⟩ 150 40 0 0) = .good (lfAt (-310) 150) ∧
       (-310 - s.pc.geom.crouch).natAbs ≤ 10 ∧ s.zone.surface.contact ≤ 150) ∧
    (let s := asked (aloft .swing .swing)
     PendingSound s ∧ s.pc.body.standing = true ∧ s.rxu.re1 = false ∧ s.rxu.running = none ∧ s.rxu.waiting = false ∧
       (s.link .lf).obstruct = false ∧ (s.link .lf).overload = false ∧ s.modeOf .lf = .swing ∧
       s.pls.placement ≠ some .lf ∧ s.modeOf .lf ≠ .limp ∧
       judgeReport (recordOf ⟨300, 200, -420⟩ 0 40 2 0) = .good { lfAt (-420) 0 with obstruct := true } ∧
       judgeReport (recordOf ⟨300, 200, -420⟩ 0 40 4 0) = .good { lfAt (-420) 0 with overload := true }) ∧
    (let k := (linkIn (asked standing) .lf fun k => { k with link := .lost, good := 1 }).link .lf
     k.link = .lost ∧ k.good < 2 ∧ k.sendWaiting = false) ∧
    ((linkIn (asked standing) .lf fun k => { k with link := .lost, good := 2 }).link .lf).good = 2 ∧
    judgeReport (recordOf ⟨9999, 0, 0⟩ 0 40 32 0) = .moduleFault ∧
    ((asked standing).link .lf).moduleFault = false ∧ ((asked standing).link .lf).miss < 2 ∧
    ((linkIn (asked standing) .lf fun k => { k with moduleFault := true }).link .lf).moduleFault = true ∧
    judgeReport (recordOf ⟨-2000, 2000, 0⟩ 2000 150 0 7) = .good { reportOf ⟨-2000, 2000, 0⟩ 2000 with temp := 150, suggested := 7 } ∧
    judgeReport (recordOf ⟨0, 0, -2000⟩ 0 (-40) 0 0) = .good { reportOf ⟨0, 0, -2000⟩ 0 with temp := -40 } := by
  refine ⟨⟨by decide, by decide, rfl, rfl, rfl, ⟨.rh, by decide, rfl⟩, by decide, rfl, rfl, fun l => ?_, by decide +kernel,
      by decide +kernel⟩,
    ⟨rfl, rfl, rfl, rfl, rfl, fun l => ?_, by decide, by decide +kernel, by decide, by decide⟩, ?_⟩
  · cases l <;> decide
  · cases l <;> decide
  · unfold PendingSound; decide +kernel

theorem witness_CalibrationReports :
    ((linkIn (asked lying) .lf fun k => { k with calib := .awaitBusy }).link .lf).awaiting = true ∧
    judgeReport (recordOf ⟨0, 0, 0⟩ 0 40 8 0) = .good { reportOf ⟨0, 0, 0⟩ 0 with calibBusy := true } ∧
    judgeReport (recordOf ⟨0, 0, 0⟩ 0 40 16 0) = .good { reportOf ⟨0, 0, 0⟩ 0 with calibDone := true } ∧
    ((asked lying).link .lf).link ≠ .lost := by decide +kernel

/-- Each level at its fall point, and one degree above it. -/
theorem witness_Holds :
    (windowed.tdu.legs.get .rf).hold ≠ none ∧ LevelsSound windowed ∧ (windowed.link .rf).link = .ok ∧
    (windowed.tdu.legs.get .rf).last = some 96 ∧ (windowed.tdu.legs.get .rf).level = 3 ∧
    ¬ ((96 : Int) ≤ 90) ∧
    (let s := { windowed with tdu.legs := windowed.tdu.legs.set .rf { level := 3, hold := some 0, last := some 90 } };
      (s.tdu.legs.get .rf).hold ≠ none ∧ LevelsSound s ∧ (s.tdu.legs.get .rf).last = some 90 ∧ (90 : Int) ≤ 90) ∧
    ((linkIn windowed .rf fun k => { k with link := .lost }).link .rf).link ≠ .ok := by
  refine ⟨by decide, ⟨fun l => ?_, by decide⟩, by decide, by decide, by decide, by decide,
    ⟨by decide, ⟨fun l => ?_, by decide⟩, by decide, by decide⟩, by decide⟩
  · cases l <;> decide
  · cases l <;> decide

theorem witness_HotLine :
    ({ standing with tdu.window := .drive } : State).tdu.window = .drive ∧ standing.tdu.window = .sense ∧
    standing.tdu.lastSense ≠ some true ∧
    (let s := { standing with tdu.lastSense := some true, tdu.run := 1 };
      s.tdu.window = .sense ∧ s.tdu.lastSense = some true ∧ 1 ≤ s.tdu.run ∧ LevelsSound s) := by
  refine ⟨rfl, rfl, by decide, rfl, rfl, by decide, fun l => ?_, by decide⟩
  cases l <;> decide

/-! ## Single events -/

/-- R82, R81, R103: a RESWING that times out on a LOST link leaves its leg in PLACING at the attempt's own target. -/
theorem test_exhausted_in_reswing :
    after .reswingTimeout
      (linkIn { lfIn placing .swing with pls.sub := .reswing, pls.attempt := 1, pls.attemptTarget := ⟨310, 200, -420⟩ } .lf
        fun k => { k with link := .lost })
      (fun t => t.modeOf .lf == .placing && (t.cmdOf .lf).target == ⟨310, 200, -420⟩ &&
        (t.queueOf .lf).discarded == some 3 && t.pls.placement == none) = true := by decide

/-- R88 and the worked reseat of 04: a procedure that succeeds at its second check shows pass 2. -/
theorem test_reseat_pass :
    (let s := State.reseatCheck { standing with pls.reseat := true, pls.reseatSet := [.lf] } 2
     s.pls.pass == 2 && s.pls.reseat == false) = true := by decide

/-- R123: the zone in force is told with all the fields of its entry, the limit and the valid field among them. -/
theorem test_zone_in_force :
    zoned.zoneItem 16 = some (.item (.zoneInForce 0 (some true) (some 9000) zoned.zone)) := by decide

/-- R147: PLACE is given the clearance that LIFT was sent with, whatever was latched since. -/
theorem test_place_clearance :
    (let s := lfIn (inReflex .retract .place) .swing
     let t := (State.startStage { s with rxu.running := s.rxu.running.map fun r => { r with lift := 77 } }).1
     t.pls.liftClearance == 77 && t.pls.placement == some .lf) = true := by decide

end Sys2Proof.Tests
end

section
/-! ## Rules of the shared operations

What a fold over the legs keeps and writes; what a note, a leg command, the end of a SLIP condition, a change of the
body state and a change of the stance set write, and what of the state they leave alone. -/

namespace Sys2Proof.Machine

/-- What of a link no command changes: all but the exchange and the two conditions that a mode ends. -/
def Link.lasting (k : Link) : Link :=
  { k with awaiting := false, sendWaiting := false, refresh := none, report := none, sent := none, obstruct := false,
           overload := false }

/-- The Reflex Unit's state but for the pending list. -/
def Reflexes.unlisted (x : Reflexes) : Reflexes := { x with pending := [] }

theorem Reflexes.stack_of_unlisted {x y : Reflexes} (h : x.unlisted = y.unlisted) : x.stack = y.stack := by
  have kept := congrArg Reflexes.stack h
  exact kept

/-- The walking state but for the commands and the contact-verified flags. -/
def Strider.uncommanded (x : Strider) : Strider := { x with cmd := .all .atReset, verified := .all false }

theorem Strider.odometer_of_uncommanded {x y : Strider} (h : x.uncommanded = y.uncommanded) :
    x.odometer = y.odometer := by
  have kept := congrArg Strider.odometer h
  exact kept

namespace State

variable {s : State}

/-! ### Folds over the legs -/

/-- A fold over the legs keeps what every pass keeps. -/
theorem foldl_keeps {β : Type} (π : State → β) {f : State → Leg → State} (hf : ∀ s l, π (f s l) = π s)
    (legs : List Leg) (s : State) : π (legs.foldl f s) = π s := by
  induction legs generalizing s with
  | nil => rfl
  | cons l rest ih => rw [List.foldl_cons, ih, hf]

/-- A fold over the four legs, each pass writing its own leg's value alone, writes every leg's value from the state it
began in. -/
theorem foldl_all_reads {β : Type} (π c : State → Leg → β) {f : State → Leg → State}
    (hself : ∀ s l, π (f s l) l = c s l) (hne : ∀ s {k l}, k ≠ l → π (f s l) k = π s k)
    (hc : ∀ s {k l}, k ≠ l → c (f s l) k = c s k) (k : Leg) : π (Leg.all.foldl f s) k = c s k := by
  have h₁ : ∀ s : State, π (f s .lf) .lf = c s .lf := fun s => hself s _
  cases k <;> simp [Leg.all, hself, hne, hc]

/-! ### Notes -/

/-- R194: what a note does to the line depends on the line alone. -/
theorem postNote_hli_congr {t : State} (n : Note) (h : s.hli = t.hli) : (s.postNote n).hli = (t.postNote n).hli := by
  simp only [postNote, h]
  split
  · exact h
  · split
    · split
      · rfl
      · rfl
    · exact h

/-! ### Leg commands -/

theorem handToLink_lasting (s : State) (l k : Leg) : ((s.handToLink l).link k).lasting = (s.link k).lasting := by
  rcases handToLink_cases s l with ⟨-, e⟩ | ⟨-, e⟩ <;> rw [e]
  · simp only [link, PerLeg.get_modify]
    split <;> rfl
  · simp only [sendCommand, link, PerLeg.get_modify]
    split <;> rfl

theorem endOverload_lasting (s : State) (l k : Leg) : ((s.endOverload l).link k).lasting = (s.link k).lasting := by
  unfold endOverload
  split
  · simp only [tellGone, link, PerLeg.get_modify]
    split <;> rfl
  · rfl

theorem modeChanged_lasting (s : State) (l k : Leg) (m : LegMode) :
    ((s.modeChanged l m).link k).lasting = (s.link k).lasting := by
  have quiet : (({ s with llc := s.llc.modify l fun k => { k with obstruct := false } } : State).link k).lasting =
      (s.link k).lasting := by
    simp only [link, PerLeg.get_modify]
    split <;> rfl
  unfold modeChanged
  cases m with
  | limp => rw [← quiet]; exact endOverload_lasting _ _ _
  | _ => exact quiet

/-- A command keeps what its four writes keep: the command, the steady mark, the mode's own effects, the link. -/
theorem setCmd_keeps {β : Type} (π : State → β) {l : Leg} {m : LegMode}
    (hcmd : ∀ s a, π { s with ssq.cmd := s.ssq.cmd.set l a } = π s)
    (hsteady : ∀ s, π (s.unsteady l) = π s) (hmode : ∀ s, π (s.modeChanged l m) = π s)
    (hlink : ∀ s, π (s.handToLink l) = π s) (s : State) (p : Point) (c : Int) : π (s.setCmd l m p c) = π s := by
  unfold setCmd
  dsimp only
  split_ifs <;> simp only [hlink, hmode, hsteady, hcmd]

theorem setCmd_lasting (s : State) (l k : Leg) (m : LegMode) (p : Point) (c : Int) :
    ((s.setCmd l m p c).link k).lasting = (s.link k).lasting :=
  setCmd_keeps (fun s => (s.link k).lasting) (fun _ _ => rfl) (fun _ => rfl)
    (fun s => modeChanged_lasting s l k m) (fun s => handToLink_lasting s l k) s p c

@[simp] theorem setCmd_withdrawn (s : State) (l k : Leg) (m : LegMode) (p : Point) (c : Int) :
    ((s.setCmd l m p c).link k).withdrawn = (s.link k).withdrawn := by
  have kept := congrArg Link.withdrawn (setCmd_lasting s l k m p c)
  exact kept

@[simp] theorem setCmd_linkState (s : State) (l k : Leg) (m : LegMode) (p : Point) (c : Int) :
    ((s.setCmd l m p c).link k).link = (s.link k).link := by
  have kept := congrArg Link.link (setCmd_lasting s l k m p c)
  exact kept

@[simp] theorem setCmd_last (s : State) (l k : Leg) (m : LegMode) (p : Point) (c : Int) :
    ((s.setCmd l m p c).link k).last = (s.link k).last := by
  have kept := congrArg Link.last (setCmd_lasting s l k m p c)
  exact kept

@[simp] theorem setCmd_admitted (s : State) (l k : Leg) (m : LegMode) (p : Point) (c : Int) :
    (s.setCmd l m p c).admitted k = s.admitted k := by
  simp [admitted]

@[simp] theorem setCmd_linkOk (s : State) (l k : Leg) (m : LegMode) (p : Point) (c : Int) :
    (s.setCmd l m p c).linkOk k = s.linkOk k := by
  simp [linkOk]

/-- Of the walking state a command writes the commands and the flags alone. -/
theorem setCmd_uncommanded (s : State) (l : Leg) (m : LegMode) (p : Point) (c : Int) :
    (s.setCmd l m p c).ssq.uncommanded = s.ssq.uncommanded :=
  setCmd_keeps (fun s => s.ssq.uncommanded) (fun _ _ => rfl) (fun _ => rfl)
    (fun s => by unfold modeChanged; cases m <;> simp [setVerified, Strider.uncommanded]) (fun _ => by simp) s p c

/-- R47: but for SWING and LIMP a mode keeps the contact-verified flags. -/
theorem setCmd_verified {m : LegMode} (hs : m ≠ .swing) (hl : m ≠ .limp) (s : State) (l : Leg) (p : Point) (c : Int) :
    (s.setCmd l m p c).ssq.verified = s.ssq.verified :=
  setCmd_keeps (fun s => s.ssq.verified) (fun _ _ => rfl) (fun _ => rfl)
    (fun s => by unfold modeChanged; cases m <;> simp_all) (fun _ => by simp) s p c

/-- R47: no mode writes another leg's flag. -/
theorem setCmd_verifiedOf_of_ne (s : State) {k l : Leg} (m : LegMode) (p : Point) (c : Int) (h : k ≠ l) :
    (s.setCmd l m p c).verifiedOf k = s.verifiedOf k :=
  setCmd_keeps (fun s => s.verifiedOf k) (fun _ _ => rfl) (fun _ => rfl)
    (fun s => by unfold modeChanged; cases m <;> simp [verifiedOf, setVerified, PerLeg.get_set_of_ne _ _ h])
    (fun _ => by simp [verifiedOf]) s p c

/-- R169: but for LIMP a mode keeps the Reflex Unit's state. -/
theorem setCmd_rxu {m : LegMode} (hl : m ≠ .limp) (s : State) (l : Leg) (p : Point) (c : Int) :
    (s.setCmd l m p c).rxu = s.rxu :=
  setCmd_keeps (fun s => s.rxu) (fun _ _ => rfl) (fun _ => rfl)
    (fun s => by unfold modeChanged; cases m <;> simp_all) (fun _ => by simp) s p c

/-- R128: a command writes the steady marks and timers of the Slip Monitor alone. -/
theorem setCmd_slip (s : State) (l k : Leg) (m : LegMode) (p : Point) (c : Int) :
    ((s.setCmd l m p c).slipOf k).slip = (s.slipOf k).slip ∧
      ((s.setCmd l m p c).slipOf k).lowForce = (s.slipOf k).lowForce := by
  have kept := setCmd_keeps (fun s => ((s.slipOf k).slip, (s.slipOf k).lowForce)) (m := m) (l := l) (fun _ _ => rfl)
    (fun s => by simp only [unsteady, slipOf, PerLeg.get_modify]; split <;> rfl)
    (fun s => by simp [slipOf]) (fun s => by simp [slipOf]) s p c
  exact Prod.ext_iff.mp kept

/-! ### Conditions that end -/

/-- R133: the SLIP condition of a leg that ends it. -/
theorem endSlip_slip (s : State) (l k : Leg) :
    ((s.endSlip l).slipOf k).slip = if k = l then false else (s.slipOf k).slip := by
  unfold endSlip
  split
  · simp only [tellGone, slipOf, PerLeg.get_modify]
    split <;> rfl
  · split
    · subst k; simpa using ‹¬(s.slipOf l).slip = true›
    · rfl

theorem endSlip_lowForce (s : State) (l k : Leg) : ((s.endSlip l).slipOf k).lowForce = (s.slipOf k).lowForce := by
  unfold endSlip
  split
  · simp only [tellGone, slipOf, PerLeg.get_modify]
    split <;> rfl
  · rfl

/-- R139: of the Reflex Unit the end of a condition writes the pending list alone. -/
theorem endSlip_unlisted (s : State) (l : Leg) : (s.endSlip l).rxu.unlisted = s.rxu.unlisted := by
  unfold endSlip
  split <;> rfl

theorem endSlip_sublist (s : State) (l : Leg) : (s.endSlip l).rxu.pending.Sublist s.rxu.pending := by
  unfold endSlip
  split
  · exact List.filter_sublist
  · exact List.Sublist.refl _

/-- R139: a SLIP entry whose condition holds leaves the list with it. -/
theorem endSlip_not_mem {l : Leg} (h : ⟨.slip, l⟩ ∈ s.rxu.pending → (s.slipOf l).slip = true) :
    ⟨.slip, l⟩ ∉ (s.endSlip l).rxu.pending := by
  unfold endSlip
  split
  · exact tellGone_not_mem _ _ _
  · exact fun hm => absurd (h hm) ‹_›

/-- R133: a leg that leaves the stance set has no SLIP condition. -/
theorem slmLeave_slip (s : State) (l k : Leg) :
    ((s.slmLeave l).slipOf k).slip = if k = l then false else (s.slipOf k).slip := by
  unfold slmLeave
  rw [endSlip_slip]
  split
  · rfl
  · rename_i h
    simp [slipOf, emptyWindow, PerLeg.get_modify, h]

/-- R133: nor a low-force count. -/
theorem slmLeave_lowForce (s : State) (l k : Leg) :
    ((s.slmLeave l).slipOf k).lowForce = if k = l then 0 else (s.slipOf k).lowForce := by
  unfold slmLeave
  rw [endSlip_lowForce]
  simp only [slipOf, PerLeg.get_modify]
  split
  · rfl
  · rename_i h
    simp [emptyWindow, PerLeg.get_modify, h]

theorem slmLeave_unlisted (s : State) (l : Leg) : (s.slmLeave l).rxu.unlisted = s.rxu.unlisted :=
  endSlip_unlisted _ _

theorem slmLeave_sublist (s : State) (l : Leg) : (s.slmLeave l).rxu.pending.Sublist s.rxu.pending :=
  endSlip_sublist _ _

/-- R133: at LOWERING, REST and RISING every SLIP condition has ended and every low-force count is 0. -/
theorem endAllSlip_slipOf (s : State) (k : Leg) :
    (s.endAllSlip.slipOf k).slip = false ∧ (s.endAllSlip.slipOf k).lowForce = 0 := by
  have ended := foldl_all_reads (fun s k => (s.slipOf k).slip) (fun _ _ => false) (f := endSlip)
    (fun s l => by simp [endSlip_slip]) (fun s k l h => by simp [endSlip_slip, h]) (fun _ _ _ _ => rfl) k
    (s := s)
  simp only [endAllSlip, slipOf, PerLeg.get_map]
  exact ⟨ended, trivial⟩

theorem endAllSlip_unlisted (s : State) : s.endAllSlip.rxu.unlisted = s.rxu.unlisted :=
  foldl_keeps (fun s => s.rxu.unlisted) endSlip_unlisted Leg.all s

/-- R139: where every listed SLIP has its condition, none stays listed; what stays was listed. -/
theorem endAllSlip_listed (hs : ∀ l, ⟨.slip, l⟩ ∈ s.rxu.pending → (s.slipOf l).slip = true) :
    s.endAllSlip.rxu.pending.Sublist s.rxu.pending ∧ ∀ l, ⟨.slip, l⟩ ∉ s.endAllSlip.rxu.pending := by
  have listed (legs : List Leg) (s : State) (hs : ∀ l, ⟨.slip, l⟩ ∈ s.rxu.pending → (s.slipOf l).slip = true) :
      (legs.foldl endSlip s).rxu.pending.Sublist s.rxu.pending ∧
        ∀ l ∈ legs, ⟨.slip, l⟩ ∉ (legs.foldl endSlip s).rxu.pending := by
    induction legs generalizing s with
    | nil => exact ⟨.refl _, fun l hl => absurd hl List.not_mem_nil⟩
    | cons k rest ih =>
      have sub := endSlip_sublist s k
      have gone := endSlip_not_mem (hs k)
      obtain ⟨subRest, goneRest⟩ := ih (s.endSlip k) fun l hl => by
        have hne : l ≠ k := fun he => gone (he ▸ hl)
        rw [endSlip_slip, if_neg hne]
        exact hs l (sub.subset hl)
      refine ⟨subRest.trans sub, fun l hl => ?_⟩
      rcases List.mem_cons.mp hl with rfl | hl
      · exact fun hm => gone (subRest.subset hm)
      · exact goneRest l hl
  obtain ⟨sub, gone⟩ := listed Leg.all s hs
  exact ⟨sub, fun l => gone l (Leg.mem_all l)⟩

/-! ### Changes of the body state -/

/-- R5: the note of a change of the body state. -/
theorem setBody_hli {b : BodyState} (r : BodyReason) (h : s.pc.body.mayBecome b = true) (hne : b ≠ s.pc.body) :
    (s.setBody b r).hli = (s.postNote (.body s.pc.body b r)).hli := by
  unfold setBody
  simp only [h, hne, if_true, if_false]
  refine postNote_hli_congr _ ?_
  split_ifs <;> simp

/-- R133, R40, R41: a body that no longer stands: no SLIP condition, no survey, the raised mark clear. -/
def unstood (s : State) (b : BodyState) : State :=
  endAllSlip { s with pc.body := b, scu.survey := false, scu.surveyTimer := none, scu.tipRaised := false }

theorem setBody_of_not_standing {b : BodyState} (r : BodyReason) (h : s.pc.body.mayBecome b = true)
    (hb : b.standing = false) (hne : b ≠ s.pc.body) :
    s.setBody b r = (s.unstood b).postNote (.body s.pc.body b r) := by
  have hu : b ≠ .unsettled := by
    rintro rfl
    cases hb
  unfold setBody
  simp only [h, hb, hne, hu, if_true, if_false, Bool.false_eq_true]
  rfl

/-- R133: it has no SLIP condition and no low-force count, and no listed SLIP. -/
theorem unstood_slipOf (s : State) (b : BodyState) (k : Leg) :
    ((s.unstood b).slipOf k).slip = false ∧ ((s.unstood b).slipOf k).lowForce = 0 :=
  endAllSlip_slipOf _ k

theorem unstood_listed (b : BodyState) (hs : ∀ l, ⟨.slip, l⟩ ∈ s.rxu.pending → (s.slipOf l).slip = true) :
    (s.unstood b).rxu.pending.Sublist s.rxu.pending ∧ ∀ l, ⟨.slip, l⟩ ∉ (s.unstood b).rxu.pending :=
  endAllSlip_listed (s := { s with pc.body := b, scu.survey := false, scu.surveyTimer := none, scu.tipRaised := false })
    hs

/-! ### The stance set -/

/-- R27, R133, R26: the stance set derived again, the windows of the legs that left emptied, the SCU recomputed. -/
def restanced (s : State) : State :=
  ((Leg.all.filter fun l => s.inStance l && !s.stanceDerived.get l).foldl slmLeave
    { s with scu.stance := s.stanceDerived }).recompute

theorem stanceUpdateWith_cases (test : State → State) (s : State) :
    (s.stanceDerived = s.scu.stance ∧ s.stanceUpdateWith test = s) ∨
      (s.stanceDerived ≠ s.scu.stance ∧ s.stanceUpdateWith test = test s.restanced) := by
  by_cases h : s.stanceDerived = s.scu.stance
  · exact .inl ⟨h, stanceUpdateWith_of_current _ _ h⟩
  · exact .inr ⟨h, stanceUpdateWith_of_stale _ _ h⟩

@[simp] theorem restanced_pc (s : State) : s.restanced.pc = s.pc := foldl_keeps State.pc slmLeave_pc _ _
@[simp] theorem restanced_atp (s : State) : s.restanced.atp = s.atp := foldl_keeps State.atp slmLeave_atp _ _
@[simp] theorem restanced_ssq (s : State) : s.restanced.ssq = s.ssq := foldl_keeps State.ssq slmLeave_ssq _ _
@[simp] theorem restanced_pls (s : State) : s.restanced.pls = s.pls := foldl_keeps State.pls slmLeave_pls _ _
@[simp] theorem restanced_fhq (s : State) : s.restanced.fhq = s.fhq := foldl_keeps State.fhq slmLeave_fhq _ _
@[simp] theorem restanced_ztb (s : State) : s.restanced.ztb = s.ztb := foldl_keeps State.ztb slmLeave_ztb _ _
@[simp] theorem restanced_llc (s : State) : s.restanced.llc = s.llc := foldl_keeps State.llc slmLeave_llc _ _
@[simp] theorem restanced_tdu (s : State) : s.restanced.tdu = s.tdu := foldl_keeps State.tdu slmLeave_tdu _ _
@[simp] theorem restanced_hli (s : State) : s.restanced.hli = s.hli := foldl_keeps State.hli slmLeave_hli _ _

theorem restanced_sway (s : State) : s.restanced.scu.sway = s.scu.sway :=
  foldl_keeps (fun s => s.scu.sway) (fun s l => by simp) _ _

theorem restanced_stance (s : State) : s.restanced.scu.stance = s.stanceDerived :=
  foldl_keeps (fun s => s.scu.stance) (fun s l => by simp) _ _

theorem restanced_unlisted (s : State) : s.restanced.rxu.unlisted = s.rxu.unlisted :=
  foldl_keeps (fun s => s.rxu.unlisted) slmLeave_unlisted _ _

/-- R139: the list loses the SLIP entries of the legs that leave. -/
theorem restanced_sublist (s : State) : s.restanced.rxu.pending.Sublist s.rxu.pending := by
  have sub (legs : List Leg) (s : State) : (legs.foldl slmLeave s).rxu.pending.Sublist s.rxu.pending := by
    induction legs generalizing s with
    | nil => exact .refl _
    | cons k rest ih => exact (ih _).trans (slmLeave_sublist s k)
  exact sub _ { s with scu.stance := s.stanceDerived }

/-- R133: the change brings no SLIP condition and no low-force count. -/
theorem restanced_slipOf {k : Leg} (h : (s.slipOf k).slip = false ∧ (s.slipOf k).lowForce = 0) :
    (s.restanced.slipOf k).slip = false ∧ (s.restanced.slipOf k).lowForce = 0 := by
  have kept (legs : List Leg) (s : State) (h : (s.slipOf k).slip = false ∧ (s.slipOf k).lowForce = 0) :
      ((legs.foldl slmLeave s).slipOf k).slip = false ∧ ((legs.foldl slmLeave s).slipOf k).lowForce = 0 := by
    induction legs generalizing s with
    | nil => exact h
    | cons l rest ih =>
      refine ih _ ?_
      rw [slmLeave_slip, slmLeave_lowForce]
      split
      · exact ⟨rfl, rfl⟩
      · exact h
  exact kept _ { s with scu.stance := s.stanceDerived } h

/-- R40: where no standing body is, the test only keeps the raised mark clear. -/
theorem tipTest_of_not_standing (hb : s.pc.body.standing = false) :
    s.tipTest = { s with scu.tipRaised := false } := by
  simp [tipTest, tipTestWith, tipTested, hb]

/-- R27: a change of the stance set where no standing body is. -/
theorem stanceUpdate_cases_of_not_standing (hb : s.pc.body.standing = false) :
    (s.stanceDerived = s.scu.stance ∧ s.stanceUpdate = s) ∨
      s.stanceUpdate = { s.restanced with scu.tipRaised := false } := by
  rcases stanceUpdateWith_cases tipTest s with ⟨h, e⟩ | ⟨-, e⟩
  · exact .inl ⟨h, e⟩
  · exact .inr (e.trans (tipTest_of_not_standing (by simpa using hb)))

end State
end Sys2Proof.Machine
end

section
/-! ## The parts of a rise and of a lowering

Each operation of R7, R12 and R13 as a chain of named parts, and what each part writes. -/

namespace Sys2Proof.Machine

namespace State

variable {s : State}

/-! ### Every admitted leg into STANCE -/

/-- R7, R12: every admitted leg commanded into STANCE at a target of its own. -/
def standAll (target : State → Leg → Point) (s : State) : State :=
  Leg.all.foldl (fun s l => if s.admitted l then s.setCmd l .stance (target s l) (s.cmdOf l).clearance else s) s

theorem standAll_keeps {β : Type} (π : State → β) (hπ : ∀ s l p c, π (s.setCmd l .stance p c) = π s)
    (target : State → Leg → Point) (s : State) : π (s.standAll target) = π s :=
  foldl_keeps π (fun s l => by
    split
    · exact hπ _ _ _ _
    · rfl) _ _

variable (target : State → Leg → Point)

@[simp] theorem standAll_pc (s : State) : (s.standAll target).pc = s.pc :=
  standAll_keeps State.pc (fun _ _ _ _ => setCmd_pc ..) target s
@[simp] theorem standAll_atp (s : State) : (s.standAll target).atp = s.atp :=
  standAll_keeps State.atp (fun _ _ _ _ => setCmd_atp ..) target s
@[simp] theorem standAll_scu (s : State) : (s.standAll target).scu = s.scu :=
  standAll_keeps State.scu (fun _ _ _ _ => setCmd_scu ..) target s
@[simp] theorem standAll_pls (s : State) : (s.standAll target).pls = s.pls :=
  standAll_keeps State.pls (fun _ _ _ _ => setCmd_pls ..) target s
@[simp] theorem standAll_fhq (s : State) : (s.standAll target).fhq = s.fhq :=
  standAll_keeps State.fhq (fun _ _ _ _ => setCmd_fhq ..) target s
@[simp] theorem standAll_ztb (s : State) : (s.standAll target).ztb = s.ztb :=
  standAll_keeps State.ztb (fun _ _ _ _ => setCmd_ztb ..) target s
@[simp] theorem standAll_tdu (s : State) : (s.standAll target).tdu = s.tdu :=
  standAll_keeps State.tdu (fun _ _ _ _ => setCmd_tdu ..) target s
@[simp] theorem standAll_hli (s : State) : (s.standAll target).hli = s.hli :=
  standAll_keeps State.hli (fun _ _ _ _ => setCmd_hli ..) target s

@[simp] theorem standAll_rxu (s : State) : (s.standAll target).rxu = s.rxu :=
  standAll_keeps State.rxu (fun _ _ _ _ => setCmd_rxu (by decide) ..) target s

@[simp] theorem standAll_uncommanded (s : State) : (s.standAll target).ssq.uncommanded = s.ssq.uncommanded :=
  standAll_keeps (fun s => s.ssq.uncommanded) (fun _ _ _ _ => setCmd_uncommanded ..) target s

@[simp] theorem standAll_verified (s : State) : (s.standAll target).ssq.verified = s.ssq.verified :=
  standAll_keeps (fun s => s.ssq.verified) (fun _ _ _ _ => setCmd_verified (by decide) (by decide) ..) target s

@[simp] theorem standAll_admitted (s : State) (k : Leg) : (s.standAll target).admitted k = s.admitted k :=
  standAll_keeps (fun s => s.admitted k) (fun _ _ _ _ => setCmd_admitted ..) target s

@[simp] theorem standAll_linkOk (s : State) (k : Leg) : (s.standAll target).linkOk k = s.linkOk k :=
  standAll_keeps (fun s => s.linkOk k) (fun _ _ _ _ => setCmd_linkOk ..) target s

@[simp] theorem standAll_slip (s : State) (k : Leg) : ((s.standAll target).slipOf k).slip = (s.slipOf k).slip :=
  standAll_keeps (fun s => (s.slipOf k).slip) (fun _ _ _ _ => (setCmd_slip ..).1) target s

@[simp] theorem standAll_lowForce (s : State) (k : Leg) :
    ((s.standAll target).slipOf k).lowForce = (s.slipOf k).lowForce :=
  standAll_keeps (fun s => (s.slipOf k).lowForce) (fun _ _ _ _ => (setCmd_slip ..).2) target s

/-- R7, R12: an admitted leg stands at its target, clamped; a withdrawn leg keeps its command. -/
theorem standAll_cmdOf {target : State → Leg → Point}
    (ht : ∀ s {k l} p c, k ≠ l → target (s.setCmd l .stance p c) k = target s k) (s : State) (k : Leg) :
    (s.standAll target).cmdOf k =
      if s.admitted k then { mode := .stance, target := clampPoint (target s k), clearance := (s.cmdOf k).clearance }
      else s.cmdOf k := by
  refine foldl_all_reads cmdOf (fun s k => if s.admitted k then
    { mode := .stance, target := clampPoint (target s k), clearance := (s.cmdOf k).clearance } else s.cmdOf k)
    (fun s l => ?_) (fun s k l h => ?_) (fun s k l h => ?_) k
  · split
    · simp
    · rfl
  · split
    · rw [setCmd_cmdOf_of_ne _ _ _ _ h]
    · rfl
  · by_cases ha : s.admitted l = true
    · simp only [ha, if_true, setCmd_admitted, ht _ _ _ h, setCmd_cmdOf_of_ne _ _ _ _ h]
    · simp only [ha, if_false, Bool.false_eq_true]

/-! ### A rise -/

/-- R7: the rise timer started, and no leg has reported since. -/
def markRise (s : State) : State := { s with pc.riseTimer := some 0, pc.roseReported := .all false }

theorem beginRise_eq (s : State) :
    s.beginRise =
      ((setBody { s with pc.postureSafe := false } .rising .host).markRise.standAll riseTarget).stanceUpdate := rfl

/-! ### A lowering -/

/-- R12: over the x and y that the leg has, 150 mm down. -/
def downTarget (s : State) (l : Leg) : Point := { (s.cmdOf l).target with z := -150 }

/-- R12: the marks, timers and lists of a lowering that begins. -/
def markLowering (s : State) : State :=
  removeEdges { s with pc.riseTimer := none, pc.loweringTimer := some 0, ssq.count := 0,
                       pc.lowered := .tab fun l => s.admitted l && s.linkOk l }

@[simp] theorem markLowering_slipOf (s : State) (l : Leg) : s.markLowering.slipOf l = s.slipOf l := rfl

/-- R12: the lowering waits for the admitted legs whose links are OK. -/
theorem markLowering_lowered (s : State) (l : Leg) :
    s.markLowering.pc.lowered.get l = (s.admitted l && s.linkOk l) := by
  simp [markLowering]

theorem beginLowering_eq (s : State) (r : BodyReason) :
    s.beginLowering r = ((s.setBody .lowering r).standAll downTarget).markLowering.stanceUpdate := rfl

/-- R13: every leg LIMP and unverified. -/
def limpAll (s : State) : State := Leg.all.foldl (fun s l => (s.setMode l .limp).setVerified l false) s

/-- R13: the sway returned, the marks of the lowering cleared, and the posture-safe flag set. -/
def laidDown (s : State) : State :=
  { s.limpAll with scu.sway := Pair.zero, pc.loweringTimer := none, pc.lowered := .all false, pc.postureSafe := true }

theorem endLowering_eq (s : State) (r : BodyReason) :
    s.endLowering r = s.laidDown.stanceUpdate.setBody .rest r := rfl

theorem limpAll_keeps {β : Type} (π : State → β) (hc : ∀ s l p c, π (s.setCmd l .limp p c) = π s)
    (hv : ∀ s l, π (s.setVerified l false) = π s) (s : State) : π s.limpAll = π s :=
  foldl_keeps π (fun s l => (hv _ l).trans (hc s l _ _)) _ _

@[simp] theorem limpAll_pc (s : State) : s.limpAll.pc = s.pc :=
  limpAll_keeps State.pc (fun _ _ _ _ => setCmd_pc ..) (fun _ _ => rfl) s
@[simp] theorem limpAll_atp (s : State) : s.limpAll.atp = s.atp :=
  limpAll_keeps State.atp (fun _ _ _ _ => setCmd_atp ..) (fun _ _ => rfl) s
@[simp] theorem limpAll_scu (s : State) : s.limpAll.scu = s.scu :=
  limpAll_keeps State.scu (fun _ _ _ _ => setCmd_scu ..) (fun _ _ => rfl) s
@[simp] theorem limpAll_pls (s : State) : s.limpAll.pls = s.pls :=
  limpAll_keeps State.pls (fun _ _ _ _ => setCmd_pls ..) (fun _ _ => rfl) s
@[simp] theorem limpAll_fhq (s : State) : s.limpAll.fhq = s.fhq :=
  limpAll_keeps State.fhq (fun _ _ _ _ => setCmd_fhq ..) (fun _ _ => rfl) s
@[simp] theorem limpAll_ztb (s : State) : s.limpAll.ztb = s.ztb :=
  limpAll_keeps State.ztb (fun _ _ _ _ => setCmd_ztb ..) (fun _ _ => rfl) s
@[simp] theorem limpAll_tdu (s : State) : s.limpAll.tdu = s.tdu :=
  limpAll_keeps State.tdu (fun _ _ _ _ => setCmd_tdu ..) (fun _ _ => rfl) s
@[simp] theorem limpAll_hli (s : State) : s.limpAll.hli = s.hli :=
  limpAll_keeps State.hli (fun _ _ _ _ => setCmd_hli ..) (fun _ _ => rfl) s

@[simp] theorem limpAll_uncommanded (s : State) : s.limpAll.ssq.uncommanded = s.ssq.uncommanded :=
  limpAll_keeps (fun s => s.ssq.uncommanded) (fun _ _ _ _ => setCmd_uncommanded ..) (fun _ _ => rfl) s

theorem limpAll_cmdOf (s : State) (k : Leg) :
    s.limpAll.cmdOf k =
      { mode := .limp, target := clampPoint (s.cmdOf k).target, clearance := (s.cmdOf k).clearance } :=
  foldl_all_reads cmdOf
    (fun s k => { mode := .limp, target := clampPoint (s.cmdOf k).target, clearance := (s.cmdOf k).clearance })
    (fun s l => by simp [setMode]) (fun s k l h => by simp [setMode, setCmd_cmdOf_of_ne _ _ _ _ h])
    (fun s k l h => by simp [setMode, setCmd_cmdOf_of_ne _ _ _ _ h]) k

theorem limpAll_verifiedOf (s : State) (k : Leg) : s.limpAll.verifiedOf k = false :=
  foldl_all_reads verifiedOf (fun _ _ => false) (f := fun s l => (s.setMode l .limp).setVerified l false)
    (fun s l => by simp) (fun s k l h => by
      rw [setVerified_verifiedOf_of_ne _ _ h]
      exact setCmd_verifiedOf_of_ne _ _ _ _ h) (fun _ _ _ _ => rfl) k

@[simp] theorem laidDown_pc (s : State) :
    s.laidDown.pc = { s.pc with loweringTimer := none, lowered := .all false, postureSafe := true } := by
  simp [laidDown]

@[simp] theorem laidDown_atp (s : State) : s.laidDown.atp = s.atp := by simp [laidDown]
@[simp] theorem laidDown_fhq (s : State) : s.laidDown.fhq = s.fhq := by simp [laidDown]
@[simp] theorem laidDown_ztb (s : State) : s.laidDown.ztb = s.ztb := by simp [laidDown]
@[simp] theorem laidDown_tdu (s : State) : s.laidDown.tdu = s.tdu := by simp [laidDown]
@[simp] theorem laidDown_hli (s : State) : s.laidDown.hli = s.hli := by simp [laidDown]

theorem laidDown_ssq (s : State) : s.laidDown.ssq = s.limpAll.ssq := rfl

end State
end Sys2Proof.Machine
end

section
/-! ## What an event may do to the posture

One relation between two values of the Posture Controller's block, which every shared operation keeps: the geometry
record and the protect latch are set once (R3, R4, R17), the posture-safe flag stays true to REST (R14), and REST is not
left (R5). Each lemma carries the relation through one operation, from the start of the event. -/

namespace Sys2Proof.Machine

/-- R4, R14, R17: the written record stays as it is, the latch stays set, the posture-safe flag stays true to REST. -/
structure PostureSound (p q : Posture) : Prop where
  record : p.written = true → q.written = true ∧ q.geom = p.geom
  latch : p.protect = true → q.protect = true
  safe : (p.postureSafe = true ↔ p.body = .rest) → (q.postureSafe = true ↔ q.body = .rest)

/-- What all but a reset and an accepted RISE do: sound, and REST is not left (R5). -/
structure PostureKept (p q : Posture) : Prop extends PostureSound p q where
  lying : p.body = .rest → q.body = .rest

theorem PostureKept.refl (p : Posture) : PostureKept p p := ⟨⟨fun h => ⟨h, rfl⟩, id, id⟩, id⟩

theorem PostureSound.trans {p q r : Posture} (h₁ : PostureSound p q) (h₂ : PostureSound q r) : PostureSound p r where
  record hw :=
    have ⟨hq, gq⟩ := h₁.record hw
    have ⟨hr, gr⟩ := h₂.record hq
    ⟨hr, gr.trans gq⟩
  latch hl := h₂.latch (h₁.latch hl)
  safe hs := h₂.safe (h₁.safe hs)

theorem PostureKept.trans {p q r : Posture} (h₁ : PostureKept p q) (h₂ : PostureKept q r) : PostureKept p r :=
  ⟨h₁.toPostureSound.trans h₂.toPostureSound, fun hl => h₂.lying (h₁.lying hl)⟩

/-- A change of the marks and timers of the block keeps the posture. -/
theorem PostureKept.of_marks {p q r : Posture} (h : PostureKept p q) (hb : r.body = q.body) (hg : r.geom = q.geom)
    (hw : r.written = q.written) (hs : r.postureSafe = q.postureSafe) (hp : r.protect = q.protect) :
    PostureKept p r :=
  h.trans ⟨⟨fun h => ⟨hw ▸ h, hg⟩, fun h => hp ▸ h, by rw [hb, hs]; exact id⟩, by rw [hb]; exact id⟩

namespace State

variable {p : Posture} {s : State}

/-- A fold over the legs keeps the posture when every pass does. -/
theorem foldl_posture (f : State → Leg → State) (hf : ∀ s l, PostureKept p s.pc → PostureKept p (f s l).pc)
    (legs : List Leg) (h : PostureKept p s.pc) : PostureKept p (legs.foldl f s).pc := by
  induction legs generalizing s with
  | nil => exact h
  | cons l rest ih => exact ih (hf _ _ h)

theorem ite_posture {c : Prop} [Decidable c] {t : State} (hs : PostureKept p s.pc) (ht : PostureKept p t.pc) :
    PostureKept p (if c then s else t).pc := by
  split
  · exact hs
  · exact ht

/-! ## Body state, TIP and the latch -/

/-- R5: no change of the body state but those of R7 and R13 begins or ends at REST. -/
theorem setBody_posture {b : BodyState} (r : BodyReason) (hrest : b ≠ .rest) (hrising : b ≠ .rising)
    (h : PostureKept p s.pc) : PostureKept p (s.setBody b r).pc := by
  refine h.trans ?_
  rw [setBody_pc, setBody_body]
  split
  · rename_i hb
    have hne : s.pc.body ≠ .rest := by
      intro he
      rw [he] at hb
      cases b <;> simp_all [BodyState.mayBecome]
    exact ⟨⟨fun h => ⟨h, rfl⟩, id, by simp [hrest, hne]⟩, fun he => absurd he hne⟩
  · exact .refl _

theorem tipTestWith_posture {raise : State → State}
    (hr : ∀ s, PostureKept p s.pc → PostureKept p (raise s).pc) (h : PostureKept p s.pc) :
    PostureKept p (s.tipTestWith raise).pc := by
  rcases tipTestWith_cases raise s with ⟨-, e⟩ | ⟨-, -, e⟩ | ⟨-, -, -, e⟩ | ⟨-, -, -, e⟩ <;> rw [e]
  · exact h
  · exact h
  · exact h
  · exact hr _ h

theorem stanceUpdateWith_posture {test : State → State}
    (ht : ∀ s, PostureKept p s.pc → PostureKept p (test s).pc) (h : PostureKept p s.pc) :
    PostureKept p (s.stanceUpdateWith test).pc := by
  rcases stanceUpdateWith_cases test s with ⟨-, e⟩ | ⟨-, e⟩ <;> rw [e]
  · exact h
  · exact ht _ (by simpa using h)

@[simp] theorem heldTip_pc (s : State) : s.heldTip.pc = s.pc := by simp [heldTip]

theorem holdLeg_posture (s : State) (l : Leg) (h : PostureKept p s.pc) : PostureKept p (s.holdLeg l).pc := by
  have held : PostureKept p ((s.setMode l .hold).stanceUpdateWith (tipTestWith heldTip)).pc :=
    stanceUpdateWith_posture (fun t ht => tipTestWith_posture (fun u hu => by rwa [heldTip_pc]) ht) (by simpa using h)
  unfold holdLeg
  split
  · exact held
  · exact held
  · exact held
  · exact h

/-- R17: the latch is only ever set. -/
theorem setProtect_posture (h : PostureKept p s.pc) : PostureKept p s.setProtect.pc := by
  unfold setProtect
  split
  · exact h
  · refine foldl_posture _ holdLeg_posture _ ?_
    rw [postFault_pc]
    exact h.trans ⟨⟨fun h => ⟨h, rfl⟩, fun _ => rfl, id⟩, id⟩

theorem overflow_posture (t : Trigger) (l : Option Leg) (h : PostureKept p s.pc) :
    PostureKept p (s.overflow t l).pc :=
  setProtect_posture (by simpa using h)

theorem enterReflex_posture (r : Running) (h : PostureKept p s.pc) : PostureKept p (s.enterReflex r).pc :=
  setBody_posture _ (by decide) (by decide) (by simpa [standAside, idlePhase, clearPlacement] using h)

@[simp] theorem crouchLeg_pc (s : State) (l : Leg) : (s.crouchLeg l).pc = s.pc := by
  unfold crouchLeg
  cases s.modeOf l <;> simp

@[simp] theorem beginCrouch_pc (s : State) : s.beginCrouch.pc = s.pc := foldl_keeps State.pc crouchLeg_pc _ _

theorem raiseTip_posture (h : PostureKept p s.pc) : PostureKept p s.raiseTip.pc := by
  unfold raiseTip
  split
  · simpa using h
  · split
    · split
      · rw [beginCrouch_pc]
        exact enterReflex_posture _ h
      · exact overflow_posture _ _ h
    · simpa using h

theorem tipTest_posture (h : PostureKept p s.pc) : PostureKept p s.tipTest.pc :=
  tipTestWith_posture (fun _ => raiseTip_posture) h

theorem stanceUpdate_posture (h : PostureKept p s.pc) : PostureKept p s.stanceUpdate.pc :=
  stanceUpdateWith_posture (fun _ => tipTest_posture) h

theorem recomputeTest_posture (h : PostureKept p s.pc) : PostureKept p s.recomputeTest.pc := tipTest_posture h

/-! ## What a resumption starts, and how walks and reseats end -/

@[simp] theorem beginShift_pc (s : State) (l : Leg) : (s.beginShift l).pc = s.pc := rfl

@[simp] theorem beginStepShift_pc (s : State) (l : Leg) (i : Nat) : (s.beginStepShift l i).pc = s.pc := by
  unfold beginStepShift
  split <;> rfl

@[simp] theorem beginStride_pc (s : State) : s.beginStride.pc = s.pc := by simp [beginStride]

theorem beginPlacement_posture (l : Leg) (t : Point) (c : Int) (e : Option Foothold) (h : PostureKept p s.pc) :
    PostureKept p (s.beginPlacement l t c e).pc :=
  stanceUpdate_posture (by simpa using h)

@[simp] theorem postStride_pc (s : State) : s.postStride.pc = s.pc := by simp [postStride]

@[simp] theorem endStep_pc (s : State) : s.endStep.pc = s.pc := by
  unfold endStep
  split
  · simp [strideEnd]
  · rfl

theorem enterHold_posture (n : NextStep) (r : BodyReason) (h : PostureKept p s.pc) :
    PostureKept p (s.enterHold n r).pc :=
  setBody_posture _ (by decide) (by decide) h

theorem walkOver_posture (r : BodyReason) (h : PostureKept p s.pc) : PostureKept p (s.walkOver r).pc :=
  setBody_posture _ (by decide) (by decide) h

theorem holdAfterStep_posture (r r' : BodyReason) (h : PostureKept p s.pc) :
    PostureKept p (s.holdAfterStep r r').pc := by
  unfold holdAfterStep
  split
  · exact walkOver_posture _ (by simpa using h)
  · exact enterHold_posture _ _ (by simpa using h)

theorem resumeAsHold_posture (l : Option Leg) (i : Nat) (f : Phase) (r : BodyReason) (h : PostureKept p s.pc) :
    PostureKept p (s.resumeAsHold l i f r).pc := by
  unfold resumeAsHold
  split
  · exact enterHold_posture _ _ h
  · exact holdAfterStep_posture _ _ h
  · exact enterHold_posture _ _ h

theorem reseatSucceed_posture (n : Nat) (h : PostureKept p s.pc) : PostureKept p (s.reseatSucceed n).pc := by
  unfold reseatSucceed
  dsimp only
  split
  · simpa [idlePhase] using h
  · exact setBody_posture _ (by decide) (by decide) (by simpa [idlePhase] using h)
  · exact setBody_posture _ (by decide) (by decide) (by simpa [idlePhase] using h)

theorem reseatFail_posture (h : PostureKept p s.pc) : PostureKept p s.reseatFail.pc := by
  unfold reseatFail
  dsimp only
  split
  · exact setBody_posture _ (by decide) (by decide) (by simpa [idlePhase] using h)
  · simpa [idlePhase] using h

theorem reseatCheck_posture (n : Nat) (h : PostureKept p s.pc) : PostureKept p (s.reseatCheck n).pc := by
  unfold reseatCheck
  dsimp only
  split
  · exact reseatSucceed_posture _ h
  · split
    · exact reseatFail_posture h
    · exact h

theorem beginReseat_posture (h : PostureKept p s.pc) : PostureKept p s.beginReseat.pc := reseatCheck_posture _ h

/-! ## Reflexes -/

@[simp] theorem braceRaise_pc (s : State) (i : Int) : (s.braceRaise i).pc = s.pc := by
  simp [braceRaise]

theorem startStage_posture (h : PostureKept p s.pc) : PostureKept p s.startStage.1.pc := by
  unfold startStage
  split
  · exact h
  · split
    · exact h
    · split
      · simpa using h
      · exact h
    · split
      · exact h
      · exact beginPlacement_posture _ _ _ _ h
    · exact h
    · exact h
    · split
      · exact h
      · exact h
    · exact h

theorem takeCause_posture (c : Cause) (l : Leg) (h : PostureKept p s.pc) : PostureKept p (s.takeCause c l).1.pc := by
  unfold takeCause
  split
  · dsimp only
    have entered := enterReflex_posture (s.reflexFor c l) h
    have begun : PostureKept p (if (s.reflexFor c l).kind = .brace
        then (s.enterReflex (s.reflexFor c l)).braceRaise (s.reflexFor c l).param
        else s.enterReflex (s.reflexFor c l)).startStage.1.pc := by
      refine startStage_posture ?_
      split
      · rwa [braceRaise_pc]
      · exact entered
    split
    · rename_i t e
      rw [e] at begun
      dsimp only
      split
      · exact begun
      · exact tipTest_posture begun
    · exact begun
  · exact overflow_posture _ _ h

theorem takeOldest_posture (h : PostureKept p s.pc) : PostureKept p s.takeOldest.1.pc := by
  unfold takeOldest
  split
  · exact h
  · exact takeCause_posture _ _ h

theorem Origin.body_ne (o : Origin) : o.body ≠ .rest ∧ o.body ≠ .rising := by cases o <;> decide

theorem resumeContext_posture (c : Context) (f : Bool) (h : PostureKept p s.pc) :
    PostureKept p (s.resumeContext c f).1.pc := by
  cases c with
  | stand => exact setBody_posture _ (by decide) (by decide) h
  | unsettled => exact setBody_posture _ (by decide) (by decide) h
  | hold => exact setBody_posture _ (by decide) (by decide) h
  | recover r => exact startStage_posture h
  | reseat o n k d x a =>
    obtain ⟨h₁, h₂⟩ := Origin.body_ne o
    exact reseatCheck_posture _ (setBody_posture _ h₁ h₂ h)
  | walk l i f k d a =>
    simp only [resumeContext]
    split
    · exact resumeAsHold_posture _ _ _ _ h
    · have walking : PostureKept p (setBody { s with ssq.count := k, ssq.dir := d } .walk .done).pc :=
        setBody_posture _ (by decide) (by decide) h
      split
      · exact walking
      · exact walking
      · simpa using walking

theorem endReflex_posture (f : Bool) (h : PostureKept p s.pc) : PostureKept p (s.endReflex f).1.pc := by
  unfold endReflex
  split
  · exact resumeContext_posture _ _ (by simpa [idlePhase] using h)
  · exact h

/-- The body state resumed is tested, unless it is a RECOVER that goes on (log entry 9). -/
def resumedTest (s : State) : State := if s.pc.body = .recover then s else s.tipTest

/-- R141, R151: a reflex that ends, and whose context is in place, lets the oldest entry be taken. -/
theorem settleReflex_of_resumed (n : Nat) {t : State} {v : Verdict} (hv : v ≠ .running)
    (e : s.endReflex (v == .failed) = (t, .running)) :
    settleReflex (n + 1) s v =
      if t.resumedTest.mayTakePending then
        settleReflex n t.resumedTest.takeOldest.1 t.resumedTest.takeOldest.2
      else t.resumedTest := by
  cases v with
  | running => exact absurd rfl hv
  | completed =>
    rw [settleReflex, e]
    · rfl
    · simp
  | failed =>
    rw [settleReflex, e]
    · rfl
    · simp

/-- R151: a context whose stage ends at once ends in its turn. -/
theorem settleReflex_of_ended_again (n : Nat) {t : State} {v v' : Verdict} (hv : v ≠ .running) (hv' : v' ≠ .running)
    (e : s.endReflex (v == .failed) = (t, v')) : settleReflex (n + 1) s v = settleReflex n t v' := by
  cases v with
  | running => exact absurd rfl hv
  | completed =>
    rw [settleReflex, e]
    · cases v' <;> trivial
    · simp
  | failed =>
    rw [settleReflex, e]
    · cases v' <;> trivial
    · simp

theorem resumedTest_posture (h : PostureKept p s.pc) : PostureKept p s.resumedTest.pc := by
  unfold resumedTest
  split
  · exact h
  · exact tipTest_posture h

theorem settleReflex_posture (n : Nat) (v : Verdict) (h : PostureKept p s.pc) :
    PostureKept p (settleReflex n s v).pc := by
  induction n generalizing s v with
  | zero => exact h
  | succ n ih =>
    by_cases hv : v = .running
    · rwa [hv, settleReflex_running]
    · have ended := endReflex_posture (v == .failed) h
      rcases e : s.endReflex (v == .failed) with ⟨t, v'⟩
      rw [e] at ended
      by_cases hv' : v' = .running
      · subst hv'
        rw [settleReflex_of_resumed n hv e]
        split
        · exact ih _ (takeOldest_posture (resumedTest_posture ended))
        · exact resumedTest_posture ended
      · rw [settleReflex_of_ended_again n hv hv' e]
        exact ih _ ended

theorem settle_posture (v : Verdict) (h : PostureKept p s.pc) : PostureKept p (s.settle v).pc :=
  settleReflex_posture _ _ h

theorem take_posture (c : Cause) (l : Leg) (h : PostureKept p s.pc) : PostureKept p (s.take c l).pc :=
  settle_posture _ (takeCause_posture _ _ h)

theorem takePending_posture (h : PostureKept p s.pc) : PostureKept p s.takePending.pc := by
  unfold takePending
  split
  · exact settle_posture _ (takeOldest_posture h)
  · exact h

theorem enableRise_posture (h : PostureKept p s.pc) : PostureKept p s.enableRise.pc := takePending_posture h

theorem bodySettled_posture (b : BodyState) (h : PostureKept p s.pc) : PostureKept p (s.bodySettled b).pc := by
  unfold bodySettled
  dsimp only
  split
  · exact h
  · split
    · exact enableRise_posture (tipTest_posture h)
    · exact tipTest_posture h

@[simp] theorem dropCause_pc (s : State) (c : Cause) (l : Leg) : (s.dropCause c l).pc = s.pc := by
  cases c <;> rfl

theorem raiseCause_posture (c : Cause) (l : Leg) (h : PostureKept p s.pc) : PostureKept p (s.raiseCause c l).pc := by
  rcases raiseCause_cases s c l with ⟨-, e⟩ | ⟨-, -, -, e⟩ | ⟨-, e⟩ <;> rw [e]
  · simpa using h
  · simpa using h
  · exact take_posture _ _ h

theorem runStage_posture (h : PostureKept p s.pc) : PostureKept p s.runStage.pc :=
  settle_posture _ (startStage_posture h)

theorem stageDone_posture (h : PostureKept p s.pc) : PostureKept p s.stageDone.pc := by
  unfold stageDone
  dsimp only
  split
  · exact h
  · split
    · split
      · split
        · exact takePending_posture h
        · exact runStage_posture h
      · exact runStage_posture h
    · exact settle_posture _ h

theorem stageFailed_posture (h : PostureKept p s.pc) : PostureKept p s.stageFailed.pc := settle_posture _ h

theorem liftTimedOut_posture (h : PostureKept p s.pc) : PostureKept p s.liftTimedOut.pc := by
  unfold liftTimedOut
  split
  · exact h
  · rename_i r _
    split
    · exact h
    · extract_lets _ lifted _ risen
      have kept : PostureKept p risen.pc := by
        unfold risen lifted
        split <;> exact h
      split
      · exact raiseCause_posture _ _ (takePending_posture kept)
      · split
        · exact raiseCause_posture _ _ kept
        · exact runStage_posture (raiseCause_posture _ _ kept)

end State
end Sys2Proof.Machine
end

section
/-! ## The posture in walking, placing and reseating -/

namespace Sys2Proof.Machine

namespace State

variable {p : Posture} {s : State}

theorem reseatNext_posture (h : PostureKept p s.pc) : PostureKept p s.reseatNext.pc := by
  unfold reseatNext
  dsimp only
  split
  · exact h
  · exact bodySettled_posture _ (reseatCheck_posture _ h)

theorem stageLegDone_posture (f : Bool) (h : PostureKept p s.pc) : PostureKept p (s.stageLegDone f).pc := by
  unfold stageLegDone
  dsimp only
  split
  · exact h
  · split
    · split
      · exact h
      · split
        · exact stageFailed_posture h
        · exact stageDone_posture h
    · split
      · exact stageFailed_posture h
      · exact stageDone_posture h

theorem shiftFailed_posture (c : FaultCode) (l : Leg) (h : PostureKept p s.pc) :
    PostureKept p (s.shiftFailed c l).pc := by
  have noted : PostureKept p (s.postFault c (some l)).pc := by simpa using h
  unfold shiftFailed
  dsimp only
  split
  · exact stageLegDone_posture _ noted
  · exact bodySettled_posture _ (reseatFail_posture noted)
  · exact bodySettled_posture _ (enterHold_posture _ _ noted)

theorem liftTo_posture (l : Leg) (t : Point) (h : PostureKept p s.pc) : PostureKept p (s.liftTo l t).pc :=
  stanceUpdate_posture (by simpa using h)

theorem liftStride_posture (l : Leg) (h : PostureKept p s.pc) : PostureKept p (s.liftStride l).pc := by
  unfold liftStride
  split
  · exact liftTo_posture _ _ h
  · exact h

theorem liftReseat_posture (l : Leg) (h : PostureKept p s.pc) : PostureKept p (s.liftReseat l).pc := by
  unfold liftReseat
  split
  · exact liftTo_posture _ _ h
  · exact h

@[simp] theorem beginPropel_pc (s : State) : s.beginPropel.pc = s.pc := by simp [beginPropel]

@[simp] theorem postHoldFaults_pc (s : State) : s.postHoldFaults.pc = s.pc := by
  unfold postHoldFaults
  dsimp only
  split <;> split <;> simp

theorem endByStop_posture (r : BodyReason) (h : PostureKept p s.pc) : PostureKept p (s.endByStop r).pc :=
  walkOver_posture _ (by simpa using h)

theorem stopAtBoundary_posture (b : Boundary) (h : PostureKept p s.pc) : PostureKept p (s.stopAtBoundary b).pc := by
  unfold stopAtBoundary
  dsimp only
  refine takePending_posture (bodySettled_posture _ ?_)
  split
  · split
    · exact walkOver_posture _ (by simpa using h)
    · exact endByStop_posture _ (by simpa using h)
  · exact endByStop_posture _ h

theorem holdAtBoundary_posture (b : Boundary) (h : PostureKept p s.pc) : PostureKept p (s.holdAtBoundary b).pc := by
  have noted : PostureKept p s.postHoldFaults.pc := by simpa using h
  unfold holdAtBoundary
  dsimp only
  refine bodySettled_posture _ ?_
  split
  · exact holdAfterStep_posture _ _ noted
  · exact enterHold_posture _ _ noted
  · exact enterHold_posture _ _ noted

@[simp] theorem beginPause_pc (s : State) : s.beginPause.pc = s.pc := rfl

theorem goOn_posture (b : Boundary) (h : PostureKept p s.pc) : PostureKept p (s.goOn b).pc := by
  cases b with
  | lift =>
    unfold goOn
    dsimp only
    split
    · exact liftStride_posture _ h
    · exact h
  | placed => simpa [goOn] using h
  | propel ended =>
    unfold goOn
    dsimp only
    split_ifs <;> simpa using h
  | pause => simpa [goOn] using h

/-- R52, R140: at a boundary a rise of RE1 that waits takes effect. -/
def enablesAtBoundary (s : State) : State :=
  if s.rxu.waiting then { s with rxu.re1 := true, rxu.waiting := false } else s

@[simp] theorem enablesAtBoundary_pc (s : State) : s.enablesAtBoundary.pc = s.pc := by
  unfold enablesAtBoundary
  split <;> rfl

theorem boundary_eq (s : State) (b : Boundary) :
    s.boundary b = if s.ssq.stopMark then s.stopAtBoundary b
      else if s.enablesAtBoundary.mayTakePending then s.enablesAtBoundary.takePending
      else if s.enablesAtBoundary.mustHold then s.enablesAtBoundary.holdAtBoundary b
      else s.enablesAtBoundary.goOn b := rfl

theorem boundary_posture (b : Boundary) (h : PostureKept p s.pc) : PostureKept p (s.boundary b).pc := by
  have enabled : PostureKept p s.enablesAtBoundary.pc := by simpa using h
  rw [boundary_eq]
  split_ifs
  · exact stopAtBoundary_posture _ h
  · exact takePending_posture enabled
  · exact holdAtBoundary_posture _ enabled
  · exact goOn_posture _ enabled

theorem boundaryFailed_eq (s : State) :
    s.boundaryFailed = if s.ssq.stopMark then s.stopAtBoundary .placed
      else if s.enablesAtBoundary.mayTakePending then s.enablesAtBoundary.takePending
      else s.enablesAtBoundary.holdAtBoundary .placed := rfl

theorem boundaryFailed_posture (h : PostureKept p s.pc) : PostureKept p s.boundaryFailed.pc := by
  have enabled : PostureKept p s.enablesAtBoundary.pc := by simpa using h
  rw [boundaryFailed_eq]
  split_ifs
  · exact stopAtBoundary_posture _ h
  · exact takePending_posture enabled
  · exact holdAtBoundary_posture _ enabled

@[simp] theorem applySway_pc (s : State) (d : Pair) : (s.applySway d).pc = s.pc := by simp [applySway]

theorem swayOrLift_posture (l : Leg) (h : PostureKept p s.pc) : PostureKept p (s.swayOrLift l).pc := by
  unfold swayOrLift
  dsimp only
  split
  · split
    · exact boundary_posture _ h
    · exact liftReseat_posture _ h
  · split
    · exact shiftFailed_posture _ _ h
    · simpa using h

theorem swayEvent_posture (h : PostureKept p s.pc) : PostureKept p s.swayEvent.pc := by
  unfold swayEvent
  split
  · split
    · exact swayOrLift_posture _ h
    · exact h
  · exact h

/-! ### Placements -/

theorem lowerAgain_posture (l : Leg) (h : PostureKept p s.pc) : PostureKept p (s.lowerAgain l).pc :=
  stanceUpdate_posture (by simpa using h)

theorem placedVerified_posture (h : PostureKept p s.pc) : PostureKept p s.placedVerified.pc := by
  unfold placedVerified
  split
  · exact stageLegDone_posture _ h
  · exact reseatNext_posture h
  · exact boundary_posture _ h

theorem placeVerified_posture (l : Leg) (h : PostureKept p s.pc) : PostureKept p (s.placeVerified l).pc := by
  have verified : PostureKept p (((({ s with pls.placeTimer := none, pls.reswingTimer := none } : State).setCmd l .stance
      s.pls.attemptTarget (s.cmdOf l).clearance).setVerified l true).stanceUpdateWith fun t => t).pc :=
    stanceUpdateWith_posture (fun _ h => h) (by simpa using h)
  unfold placeVerified
  extract_lets _ _ commanded stood consumed noted _ tested
  have kept : PostureKept p tested.pc := by
    refine tipTest_posture ?_
    unfold noted
    rw [postNote_pc]
    unfold consumed
    split
    · exact verified
    · exact verified
  split
  · exact placedVerified_posture kept
  · exact kept

theorem placeExhausted_posture (l : Leg) (h : PostureKept p s.pc) : PostureKept p (s.placeExhausted l).pc := by
  unfold placeExhausted
  extract_lets crouch owner discarded left fallen _ ended updated tell
  have kept : PostureKept p updated.pc := by
    refine stanceUpdate_posture ?_
    unfold ended fallen left discarded
    split <;> simpa using h
  have raised := raiseCause_posture .placeFail l kept
  clear_value owner
  split
  · exact ite_posture (stageLegDone_posture _ kept) kept
  · split
    · exact raised
    · exact ite_posture (reseatNext_posture raised) raised
  · split
    · exact raised
    · exact ite_posture (boundaryFailed_posture raised) raised

theorem placeUnverified_posture (l : Leg) (h : PostureKept p s.pc) : PostureKept p (s.placeUnverified l).pc := by
  unfold placeUnverified
  split
  · exact stanceUpdate_posture (by simpa using h)
  · exact placeExhausted_posture _ h

theorem placeReport_posture (l : Leg) (r : Report) (h : PostureKept p s.pc) : PostureKept p (s.placeReport l r).pc := by
  unfold placeReport
  split
  · split
    · split
      · exact placeVerified_posture _ h
      · exact placeUnverified_posture _ h
    · exact h
  · split
    · exact lowerAgain_posture _ h
    · exact h

theorem beginPlace_posture (l : Leg) (h : PostureKept p s.pc) : PostureKept p (s.beginPlace l).pc :=
  beginPlacement_posture _ _ _ _ h

theorem swingTimedOut_posture (l : Leg) (h : PostureKept p s.pc) : PostureKept p (s.swingTimedOut l).pc := by
  unfold swingTimedOut
  split
  · exact raiseCause_posture _ _ h
  · exact beginPlace_posture _ (raiseCause_posture _ _ h)

theorem propelComplete_posture (h : PostureKept p s.pc) : PostureKept p s.propelComplete.pc := by
  unfold propelComplete
  dsimp only
  split
  · exact bodySettled_posture _ (walkOver_posture _ (by simpa using h))
  · exact boundary_posture _ (by simpa [afterStep] using h)

theorem propelStalled_posture (h : PostureKept p s.pc) : PostureKept p s.propelStalled.pc := by
  unfold propelStalled
  extract_lets before noted ended
  have kept : PostureKept p noted.pc := by
    unfold noted
    simpa using h
  refine bodySettled_posture _ ?_
  unfold ended
  split
  · split
    · exact walkOver_posture _ (by simpa using kept)
    · exact endByStop_posture _ (by simpa using kept)
  · exact holdAfterStep_posture _ _ kept

theorem settleWaiters_posture (h : PostureKept p s.pc) : PostureKept p s.settleWaiters.pc := by
  unfold settleWaiters
  split
  · split
    · exact propelComplete_posture h
    · split
      · exact stageDone_posture h
      · exact h
    · exact h
  · exact h

theorem stanceChange_posture (h : PostureKept p s.pc) : PostureKept p s.stanceChange.pc := by
  unfold stanceChange
  split
  · exact h
  · exact settleWaiters_posture (stanceUpdate_posture h)

/-! ### Reports -/

@[simp] theorem steadyReport_pc (s : State) (l : Leg) (r : Report) : (s.steadyReport l r).pc = s.pc := by
  unfold steadyReport
  dsimp only
  split <;> rfl

@[simp] theorem recordDeviation_pc (s : State) (l : Leg) (d : Nat) : (s.recordDeviation l d).pc = s.pc := by
  unfold recordDeviation
  dsimp only
  split <;> rfl

theorem decideSlip_posture (l : Leg) (d : Nat) (h : PostureKept p s.pc) : PostureKept p (s.decideSlip l d).pc := by
  unfold decideSlip
  dsimp only
  split
  · split
    · exact h
    · exact raiseCause_posture _ _ h
  · simpa using h

theorem unload_posture (l : Leg) (h : PostureKept p s.pc) : PostureKept p (s.unload l).pc :=
  raiseCause_posture _ _ (stanceChange_posture (by simpa using h))

theorem stanceReport_posture (l : Leg) (r : Report) (h : PostureKept p s.pc) :
    PostureKept p (s.stanceReport l r).pc := by
  unfold stanceReport
  extract_lets low _ counted d
  split
  · exact unload_posture _ h
  · split
    · exact decideSlip_posture _ _ (by simpa using h)
    · exact h

theorem slipReport_posture (l : Leg) (r : Report) (h : PostureKept p s.pc) : PostureKept p (s.slipReport l r).pc := by
  unfold slipReport
  extract_lets steadied
  have kept : PostureKept p steadied.pc := by
    unfold steadied
    split <;> simpa using h
  split
  · exact stanceReport_posture _ _ kept
  · exact kept

end State
end Sys2Proof.Machine
end

section
/-! ## The posture in rising, lowering and the leg links -/

namespace Sys2Proof.Machine

namespace State

variable {p : Posture} {s : State}

theorem stanceUpdate_pc_of_not_standing (hb : s.pc.body.standing = false) : s.stanceUpdate.pc = s.pc := by
  rcases stanceUpdate_cases_of_not_standing hb with ⟨-, e⟩ | e <;> rw [e]
  exact restanced_pc s

theorem beginLowering_posture (r : BodyReason) (h : PostureKept p s.pc) : PostureKept p (s.beginLowering r).pc := by
  have begun : PostureKept p ((s.setBody .lowering r).standAll downTarget).pc := by
    rw [standAll_pc]
    exact setBody_posture r (by decide) (by decide) h
  rw [beginLowering_eq]
  exact stanceUpdate_posture (begun.of_marks rfl rfl rfl rfl rfl)

/-- R13, R14: a lowering ends in REST with the posture-safe flag set. -/
theorem endLowering_pc (r : BodyReason) (hb : s.pc.body = .lowering) :
    (s.endLowering r).pc =
      { s.pc with body := .rest, loweringTimer := none, lowered := .all false, postureSafe := true } := by
  have hlaid : s.laidDown.stanceUpdate.pc = s.laidDown.pc :=
    stanceUpdate_pc_of_not_standing (by simp [hb, BodyState.standing])
  rw [endLowering_eq, setBody_pc, setBody_body, hlaid]
  simp [hb, BodyState.mayBecome]

theorem endLowering_posture (r : BodyReason) (hb : s.pc.body = .lowering) (h : PostureKept p s.pc) :
    PostureKept p (s.endLowering r).pc := by
  rw [endLowering_pc r hb]
  exact h.trans ⟨⟨fun h => ⟨h, rfl⟩, id, fun _ => by simp⟩, fun _ => rfl⟩

theorem riseReport_posture (l : Leg) (h : PostureKept p s.pc) : PostureKept p (s.riseReport l).pc := by
  unfold riseReport
  extract_lets _ reported _ stopped verified updated
  have noted : PostureKept p reported.pc := h.of_marks rfl rfl rfl rfl rfl
  split
  · have hpc : verified.pc = stopped.pc := foldl_keeps State.pc (fun s l => by split <;> simp) _ _
    refine bodySettled_posture _ (setBody_posture _ (by decide) (by decide) (stanceUpdate_posture ?_))
    rw [hpc]
    exact noted.of_marks rfl rfl rfl rfl rfl
  · exact noted

theorem lowerReport_posture (hb : s.pc.body = .lowering) (h : PostureKept p s.pc) :
    PostureKept p s.lowerReport.pc := by
  unfold lowerReport
  split
  · exact endLowering_posture _ hb h
  · exact h

theorem endSurvey_posture (h : PostureKept p s.pc) : PostureKept p s.endSurvey.pc := tipTest_posture h

theorem firstReport_posture (l : Leg) (r : Report) (h : PostureKept p s.pc) :
    PostureKept p (s.firstReport l r).pc := by
  unfold firstReport
  extract_lets _ noted stood taken
  have hn : PostureKept p noted.pc := h.of_marks rfl rfl rfl rfl rfl
  have kept : PostureKept p taken.pc := by
    unfold taken
    split
    · split
      · exact hn
      · exact stanceChange_posture (by simpa using hn)
      · refine stanceChange_posture ?_
        split <;> simpa [stood] using hn
    · exact hn
  split
  · exact endSurvey_posture kept
  · exact kept

theorem calibEnd_posture (l : Leg) (h : PostureKept p s.pc) : PostureKept p (s.calibEnd l).pc :=
  stanceUpdate_posture (by simpa using h)

theorem calibFail_posture (l : Leg) (h : PostureKept p s.pc) : PostureKept p (s.calibFail l).pc := by
  unfold calibFail
  rw [postFault_pc]
  exact calibEnd_posture l h

@[simp] theorem calibReport_pc (s : State) (l : Leg) (r : Report) : (s.calibReport l r).pc = s.pc := by
  unfold calibReport
  split
  · split <;> rfl
  · split <;> rfl
  · rfl

@[simp] theorem crouched_pc (s : State) (e : ReflexEvent) : (s.crouched e).pc = s.pc := by simp [crouched]

theorem waitingReport_posture (l : Leg) (r : Report) (w : Waiting) (h : PostureKept p s.pc) :
    PostureKept p (s.waitingReport l r w).pc := by
  cases w with
  | crouch => exact ite_posture (by simpa using h) h
  | lift => exact ite_posture (stageDone_posture h) h
  | swing => exact ite_posture (beginPlace_posture _ h) h
  | placement => exact placeReport_posture _ _ h
  | settle => exact settleWaiters_posture h
  | nothing => exact h

theorem operationReport_posture (l : Leg) (r : Report) (h : PostureKept p s.pc) :
    PostureKept p (s.operationReport l r).pc := by
  unfold operationReport
  extract_lets waiting first calibrated
  have kept : PostureKept p calibrated.pc := by
    unfold calibrated
    rw [calibReport_pc]
    exact ite_posture (firstReport_posture _ _ h) h
  split
  · exact ite_posture (riseReport_posture _ kept) kept
  · rename_i hb
    exact ite_posture (lowerReport_posture hb kept) kept
  · exact waitingReport_posture _ _ _ kept

theorem obstructFlag_posture (l : Leg) (r : Report) (h : PostureKept p s.pc) :
    PostureKept p (s.obstructFlag l r).pc :=
  ite_posture (ite_posture (raiseCause_posture _ _ h) h) h

theorem overloadFlag_posture (l : Leg) (r : Report) (h : PostureKept p s.pc) :
    PostureKept p (s.overloadFlag l r).pc :=
  ite_posture (ite_posture (raiseCause_posture _ _ h) h) (by simpa using h)

theorem takeReport_posture (l : Leg) (r : Report) (h : PostureKept p s.pc) : PostureKept p (s.takeReport l r).pc := by
  unfold takeReport
  extract_lets reported changed warmed slipped recomputed done
  have hc : PostureKept p changed.pc := stanceChange_posture h
  have hs : PostureKept p slipped.pc := slipReport_posture _ _ (by simpa [warmed] using hc)
  have hr : PostureKept p recomputed.pc := ite_posture (recomputeTest_posture hs) hs
  exact overloadFlag_posture _ _ (obstructFlag_posture _ _ (operationReport_posture _ _ hr))

theorem goodReport_posture (l : Leg) (r : Report) (h : PostureKept p s.pc) : PostureKept p (s.goodReport l r).pc := by
  unfold goodReport
  dsimp only
  split
  · split
    · exact h
    · exact takeReport_posture _ _ (by simpa using h)
  · exact takeReport_posture _ _ h

theorem linkLost_posture (l : Leg) (h : PostureKept p s.pc) : PostureKept p (s.linkLost l).pc := by
  unfold linkLost
  extract_lets _ _ lost changed ended calibrated noted
  have hl : PostureKept p lost.pc := h.of_marks rfl rfl rfl rfl rfl
  have he : PostureKept p ended.pc := by
    unfold ended
    rw [endOverload_pc]
    exact stanceChange_posture hl
  have hc : PostureKept p calibrated.pc := ite_posture he (calibFail_posture _ he)
  exact raiseCause_posture _ _ (by simpa [noted] using hc)

theorem missReport_posture (l : Leg) (h : PostureKept p s.pc) : PostureKept p (s.missReport l).pc := by
  unfold missReport
  dsimp only
  split
  · exact h
  · exact ite_posture (linkLost_posture _ h) h

theorem faultReport_posture (l : Leg) (h : PostureKept p s.pc) : PostureKept p (s.faultReport l).pc :=
  missReport_posture _ (ite_posture h (by simpa using h))

theorem judgeRecord_posture (l : Leg) (b : List Byte) (h : PostureKept p s.pc) :
    PostureKept p (s.judgeRecord l b).pc := by
  unfold judgeRecord
  split
  · exact missReport_posture _ h
  · exact faultReport_posture _ h
  · exact goodReport_posture _ _ h

end State
end Sys2Proof.Machine
end

section
/-! ## The posture in messages, on the host link and over a whole command -/

namespace Sys2Proof.Machine

/-- R6, R7: what an accepted RISE does to the block. -/
structure Rises (p q : Posture) : Prop where
  lying : p.body = .rest
  unlatched : p.protect = false
  written : p.written = true
  rising : q.body = .rising
  flagClear : q.postureSafe = false
  recordKept : q.written = p.written ∧ q.geom = p.geom

theorem Rises.sound {p q : Posture} (h : Rises p q) : PostureSound p q where
  record hw := ⟨h.recordKept.1.trans hw, h.recordKept.2⟩
  latch hl := absurd hl (by simp [h.unlatched])
  safe _ := by simp [h.flagClear, h.rising]

/-- What a message may do to the block: keep it, or begin a rise. -/
def PostureMoved (p q : Posture) : Prop := PostureKept p q ∨ Rises p q

theorem PostureMoved.sound {p q : Posture} (h : PostureMoved p q) : PostureSound p q :=
  h.elim PostureKept.toPostureSound Rises.sound

namespace State

variable {p : Posture} {s : State}

/-! ### Posture -/

/-- R7: a rise from REST. -/
theorem beginRise_pc (hb : s.pc.body = .rest) :
    s.beginRise.pc =
      { s.pc with body := .rising, postureSafe := false, riseTimer := some 0, roseReported := .all false } := by
  have begun : ((setBody { s with pc.postureSafe := false } .rising .host).markRise.standAll riseTarget).pc =
      { s.pc with body := .rising, postureSafe := false, riseTimer := some 0, roseReported := .all false } := by
    rw [standAll_pc]
    unfold markRise
    rw [setBody_pc, setBody_body]
    simp [hb, BodyState.mayBecome]
  rw [beginRise_eq, stanceUpdate_pc_of_not_standing, begun]
  rw [begun]
  rfl

/-- R6: a RISE is refused and nothing changes, or the body rises from REST. -/
theorem doRise_cases (s : State) :
    (∃ st, s.doRise = s.reply st) ∨
      (s.pc.protect = false ∧ s.pc.body = .rest ∧ s.pc.written = true ∧ s.doRise = s.beginRise.reply .ok) := by
  cases hp : s.pc.protect
  case true => exact .inl ⟨.latched, by simp [doRise, hp]⟩
  case false =>
    cases hb : s.pc.body
    case rest =>
      cases hw : s.pc.written
      case false => exact .inl ⟨.state, by simp [doRise, hp, hb, hw]⟩
      case true =>
        simp only [doRise, hp, hb, hw, Bool.false_eq_true, if_false, Bool.not_true]
        split_ifs
        · exact .inl ⟨_, rfl⟩
        · exact .inl ⟨_, rfl⟩
        · exact .inl ⟨_, rfl⟩
        · exact .inl ⟨_, rfl⟩
        · exact .inr ⟨trivial, trivial, trivial, rfl⟩
    case rising => exact .inl ⟨.busy, by simp [doRise, hp, hb]⟩
    case lowering => exact .inl ⟨.busy, by simp [doRise, hp, hb]⟩
    all_goals exact .inl ⟨.state, by simp [doRise, hp, hb]⟩

theorem doRise_moved (s : State) : PostureMoved s.pc s.doRise.state.pc := by
  rcases doRise_cases s with ⟨st, e⟩ | ⟨hp, hb, hw, e⟩ <;> rw [e]
  · exact .inl (.refl _)
  · exact .inr ⟨hb, hp, hw, by simp [reply, beginRise_pc hb], by simp [reply, beginRise_pc hb],
      by simp [reply, beginRise_pc hb]⟩

theorem doSettle_posture (h : PostureKept p s.pc) : PostureKept p s.doSettle.state.pc := by
  unfold doSettle
  split
  case h_6 =>
    split
    · exact h
    · exact beginLowering_posture _ h
  all_goals exact h

/-! ### Walking -/

theorem beginWalk_posture (n : Nat) (d : Direction) (h : PostureKept p s.pc) : PostureKept p (s.beginWalk n d).pc := by
  refine bodySettled_posture _ ?_
  rw [beginStride_pc]
  exact setBody_posture _ (by decide) (by decide) h

theorem doStride_posture (n d : Option Byte) (h : PostureKept p s.pc) : PostureKept p (s.doStride n d).state.pc := by
  unfold doStride
  split
  · exact h
  · split
    · exact h
    · exact h
    · split
      · exact h
      · split
        · split_ifs
          · exact h
          · exact h
          · exact h
          · exact h
          · exact h
          · exact h
          · exact beginWalk_posture _ _ h
          · exact beginWalk_posture _ _ h
        · exact h
    · exact h

theorem stopWalk_posture (h : PostureKept p s.pc) : PostureKept p s.stopWalk.pc := by
  unfold stopWalk
  split
  · exact h
  · exact h
  · exact h
  · exact bodySettled_posture _ (endByStop_posture _ h)

theorem stopHold_posture (h : PostureKept p s.pc) : PostureKept p s.stopHold.pc :=
  bodySettled_posture _ (setBody_posture _ (by decide) (by decide) (by simpa using h))

theorem doStop_posture (h : PostureKept p s.pc) : PostureKept p s.doStop.state.pc := by
  unfold doStop
  split
  · exact h
  · split
    · exact stopWalk_posture h
    · split
      · exact h
      · exact stopHold_posture h
    all_goals exact h

theorem continueAt_posture (n : NextStep) (h : PostureKept p s.pc) : PostureKept p (s.continueAt n).pc := by
  refine bodySettled_posture _ ?_
  rw [beginStepShift_pc]
  exact setBody_posture _ (by decide) (by decide) h

theorem doContinue_posture (h : PostureKept p s.pc) : PostureKept p s.doContinue.state.pc := by
  unfold doContinue
  split
  · exact h
  · split
    · exact h
    · exact h
    · split_ifs
      · exact h
      · exact h
      · exact h
      · exact h
      · exact h
      · split
        · exact h
        · exact h
      · split
        · exact continueAt_posture _ h
        · exact h
    · exact h

theorem doReseat_posture (h : PostureKept p s.pc) : PostureKept p s.doReseat.state.pc := by
  unfold doReseat
  split
  · exact h
  · split
    case h_6 =>
      split
      · exact h
      · exact bodySettled_posture _ (beginReseat_posture h)
    all_goals exact h

/-! ### Legs, footholds and reflexes -/

theorem doCalibrate_posture (b : Option Byte) (h : PostureKept p s.pc) :
    PostureKept p (s.doCalibrate b).state.pc := by
  unfold doCalibrate
  split
  · exact h
  · split
    · exact h
    · split
      · exact h
      · split
        · exact h
        · exact h
        · split_ifs
          · exact h
          · exact h
          · exact stanceUpdate_posture (by simpa using h)
        · exact h

theorem withdraw_posture (l : Leg) (h : PostureKept p s.pc) : PostureKept p (s.withdraw l).pc :=
  stanceUpdate_posture (by simpa using h)

theorem doWithdraw_posture (b : Option Byte) (h : PostureKept p s.pc) : PostureKept p (s.doWithdraw b).state.pc := by
  unfold doWithdraw
  split
  · exact h
  · split
    · exact h
    · split
      · exact h
      · split
        · exact h
        · exact h
        · split_ifs
          · exact h
          · exact h
          · exact withdraw_posture _ h
        · split_ifs
          · exact h
          · exact h
          · exact h
          · exact withdraw_posture _ h
        · exact h

theorem admitAgain_posture (l : Leg) (h : PostureKept p s.pc) : PostureKept p (s.admitAgain l).pc := by
  unfold admitAgain
  extract_lets marked updated
  have kept : PostureKept p updated.pc := stanceUpdate_posture (by simpa using h)
  split
  · exact bodySettled_posture _ (beginReseat_posture (by simpa using kept))
  · exact kept

theorem doAdmit_posture (b : Option Byte) (h : PostureKept p s.pc) : PostureKept p (s.doAdmit b).state.pc := by
  unfold doAdmit
  split
  · exact h
  · split
    · exact h
    · split
      · exact h
      · exact h
      · split_ifs
        · exact h
        · exact h
        · exact admitAgain_posture _ h
      · split_ifs
        · exact h
        · exact h
        · exact h
        · exact admitAgain_posture _ h
      · exact h

@[simp] theorem doPlan_pc (s : State) (l n : Option Byte) (b : List Byte) : (s.doPlan l n b).state.pc = s.pc := by
  unfold doPlan
  dsimp only
  repeat' split
  all_goals rfl

@[simp] theorem doUnplan_pc (s : State) (l t : Option Byte) : (s.doUnplan l t).state.pc = s.pc := by
  unfold doUnplan
  dsimp only
  repeat' split
  all_goals rfl

@[simp] theorem doUnplanAll_pc (s : State) (l : Option Byte) : (s.doUnplanAll l).state.pc = s.pc := by
  unfold doUnplanAll
  repeat' split
  all_goals rfl

@[simp] theorem doSwap_pc (s : State) (l : Option Byte) (b : List Byte) : (s.doSwap l b).state.pc = s.pc := by
  unfold doSwap
  repeat' split
  all_goals rfl

theorem reflexesOn_posture (h : PostureKept p s.pc) : PostureKept p s.reflexesOn.pc := by
  unfold reflexesOn
  dsimp only
  split
  · exact h
  · split
    · exact h
    · exact h
    · exact enableRise_posture h

theorem doReflexesOn_posture (h : PostureKept p s.pc) : PostureKept p s.doReflexesOn.state.pc := by
  unfold doReflexesOn
  split
  · exact h
  · exact reflexesOn_posture h

@[simp] theorem doReflexesOff_pc (s : State) : s.doReflexesOff.state.pc = s.pc := by
  unfold doReflexesOff
  split <;> rfl

theorem resumeBottom_posture (c : Context) (h : PostureKept p s.pc) : PostureKept p (s.resumeBottom c).pc := by
  unfold resumeBottom
  split
  · exact resumeAsHold_posture _ _ _ _ h
  · exact setBody_posture _ (by decide) (by decide) h
  · exact setBody_posture _ (by decide) (by decide) h
  · exact setBody_posture _ (by decide) (by decide) h
  · refine setBody_posture _ (by decide) (by decide) ?_
    dsimp only
    split
    · simpa using h
    · exact h
  · exact setBody_posture _ (by decide) (by decide) h
  · exact h

theorem resumeBody_posture (h : PostureKept p s.pc) : PostureKept p s.resumeBody.pc := by
  unfold resumeBody
  dsimp only
  refine takePending_posture (bodySettled_posture _ ?_)
  rw [postNote_pc]
  split
  · exact resumeBottom_posture _ h
  · exact h

theorem doResume_posture (h : PostureKept p s.pc) : PostureKept p s.doResume.state.pc := by
  unfold doResume
  split
  · exact h
  · split
    · exact h
    · exact h
    · split
      · exact resumeBody_posture h
      · exact h

/-! ### Items -/

@[simp] theorem doAsk_state (s : State) (u i : Byte) : (s.doAsk u i).state = s := by
  unfold doAsk
  split <;> rfl

/-- R4: a told geometry record is written once. -/
theorem tellGeometry_posture (b : List Byte) (h : PostureKept p s.pc) : PostureKept p (s.tellGeometry b).state.pc := by
  unfold tellGeometry
  split
  · exact h
  · split
    · exact h
    · rename_i hw
      split
      · exact h
      · split
        · exact h.trans ⟨⟨fun hw' => absurd hw' hw, id, id⟩, id⟩
        · exact h

@[simp] theorem tellOdometer_pc (s : State) (v : Int) : (s.tellOdometer v).state.pc = s.pc := by
  unfold tellOdometer
  split_ifs <;> simp [reply]

@[simp] theorem tellZone_pc (s : State) (i : Nat) (b : List Byte) : (s.tellZone i b).state.pc = s.pc := by
  unfold tellZone
  repeat' split
  all_goals simp [reply]

@[simp] theorem tellReflexItem_pc (s : State) (c : Nat) (l : Leg) (v : Option (Nat × Nat)) :
    (s.tellReflexItem c l v).state.pc = s.pc := by
  unfold tellReflexItem
  repeat' split
  all_goals rfl

@[simp] theorem tellWindow_pc (s : State) (l : Leg) (b : List Byte) : (s.tellWindow l b).state.pc = s.pc := by
  unfold tellWindow
  repeat' split
  all_goals rfl

@[simp] theorem tellMask_pc (s : State) (b : List Byte) : (s.tellMask b).state.pc = s.pc := by
  unfold tellMask
  split <;> rfl

@[simp] theorem tellDiscard_pc (s : State) (u : Nat) : (s.tellDiscard u).state.pc = s.pc := by
  unfold tellDiscard
  repeat' split
  all_goals rfl

theorem doTell_posture (u i : Nat) (b : List Byte) (h : PostureKept p s.pc) :
    PostureKept p (s.doTell u i b).state.pc := by
  unfold doTell
  split
  · simpa using h
  · exact tellGeometry_posture _ h
  · simpa using h
  · simpa using h
  · split
    · split <;> simpa using h
    · simpa using h
  · split <;> simpa using h
  · simpa using h

/-! ### Frames, answers and the line -/

theorem judgeDo_moved (s : State) (a : Nat) (b : List Byte) : PostureMoved s.pc (s.judgeDo a b).state.pc := by
  have refl := PostureKept.refl s.pc
  unfold judgeDo
  split
  · exact doRise_moved s
  · exact .inl (doSettle_posture refl)
  · exact .inl (doStride_posture _ _ refl)
  · exact .inl (doStop_posture refl)
  · exact .inl (doContinue_posture refl)
  · exact .inl (doReseat_posture refl)
  · exact .inl (doCalibrate_posture _ refl)
  · exact .inl (doWithdraw_posture _ refl)
  · exact .inl (doAdmit_posture _ refl)
  · exact .inl (by simpa using refl)
  · split <;> exact .inl (by simpa using refl)
  · exact .inl (by simpa using refl)
  · split
    · exact .inl (doReflexesOn_posture refl)
    · exact .inl (by simpa using refl)
    · split <;> exact .inl refl
  · exact .inl (doResume_posture refl)
  · exact .inl refl
  · exact .inl refl

theorem judgeFrame_moved (s : State) (f : Frame) : PostureMoved s.pc (s.judgeFrame f).state.pc := by
  unfold judgeFrame
  split
  · exact .inl (by simpa using PostureKept.refl s.pc)
  · exact .inl (doTell_posture _ _ _ (.refl _))
  · exact judgeDo_moved ..
  · exact .inl (.refl _)

theorem takeFrame_moved (hp : s.pc = p) : PostureMoved p s.takeFrame.pc := by
  subst hp
  unfold takeFrame
  split
  · split
    · rename_i f rest _
      exact judgeFrame_moved { s with hli.input := rest } f
    · exact .inl (.refl _)
  · exact .inl (.refl _)

theorem respond_pc (s : State) (q : Byte) (f : State → Reply) :
    (s.respond q f).pc = (f s).state.pc ∨ (s.respond q f).pc = s.pc := by
  unfold respond
  split
  · exact .inl rfl
  · exact .inr rfl

theorem respond_posture (q : Byte) (f : State → Reply) (hf : PostureKept s.pc (f s).state.pc) :
    PostureKept s.pc (s.respond q f).pc := by
  rcases respond_pc s q f with e | e <;> rw [e]
  · exact hf
  · exact .refl _

theorem acceptFrame_moved (f : Frame) (hp : s.pc = p) : PostureMoved p (s.acceptFrame f).pc := by
  unfold acceptFrame
  split
  · exact takeFrame_moved hp
  · exact .inl (by simpa [hp] using PostureKept.refl p)

theorem frameComplete_moved (b : List Byte) (hp : s.pc = p) : PostureMoved p (s.frameComplete b).pc := by
  unfold frameComplete
  dsimp only
  split
  · exact acceptFrame_moved _ hp
  · exact .inl (hp ▸ .refl _)

theorem receiveByte_moved (s : State) (b : Byte) : PostureMoved s.pc (s.receiveByte b).pc := by
  unfold receiveByte
  dsimp only
  split
  · exact .inl (.refl _)
  · split
    · split <;> exact .inl (.refl _)
    · split_ifs
      · exact .inl (.refl _)
      · exact frameComplete_moved _ rfl
      · exact .inl (.refl _)

@[simp] theorem dropFrame_pc (s : State) : s.dropFrame.pc = s.pc := by
  unfold dropFrame
  split <;> rfl

@[simp] theorem lowRun_pc (s : State) (n : Nat) : (s.lowRun n).pc = s.pc := by
  unfold lowRun lock
  dsimp only
  repeat' split
  all_goals simp

@[simp] theorem transmitStart_pc (s : State) : s.transmitStart.pc = s.pc := by
  unfold transmitStart
  split <;> rfl

theorem transmitDone_moved (hr : s.hli.resetTaken = false) : PostureMoved s.pc s.transmitDone.pc := by
  unfold transmitDone
  split
  · exact .inl (.refl _)
  · exact .inl (.refl _)
  · rw [if_neg (by simp [hr])]
    exact takeFrame_moved rfl

/-- R15: a warm reset keeps the record and the latch, and puts the body where the posture-safe flag says. -/
theorem warmReset_sound (s : State) : PostureSound s.pc s.warmReset.pc where
  record hw := ⟨hw, rfl⟩
  latch hl := hl
  safe _ := by
    cases hs : s.pc.postureSafe <;> simp [warmReset, hs]

@[simp] theorem setExternal_pc (s : State) (b : Bool) : (s.setExternal b).pc = s.pc := by
  unfold setExternal
  split <;> simp

@[simp] theorem sense_pc (s : State) (b : Bool) : (s.sense b).pc = s.pc := by
  unfold sense
  extract_lets run _ sensed
  split
  · rw [setExternal_pc]
  · rfl

@[simp] theorem setStale_pc (s : State) : s.setStale.pc = s.pc := by
  unfold setStale
  dsimp only
  split
  · rfl
  · simp

theorem acceptSample_posture (v : Sample) (h : PostureKept p s.pc) : PostureKept p (s.acceptSample v).pc :=
  swayEvent_posture (recomputeTest_posture h)

end State

/-! ### Whole commands -/

/-- The commands at which the HLI may take a frame, and the RISE itself. -/
def TakesFrames (c : Instr) : Prop :=
  (∃ q, c = .rise q) ∨ c = .takeFrame ∨ (∃ f, c = .hostFrameComplete f) ∨ (∃ b, c = .hostByteReceived b) ∨
    c = .transmitDone

open State in
/-- What a command that is no reset does to the posture: it keeps it, or a rise begins. -/
theorem exec_posture (c : Instr) (s : State) (hr : ¬ Resets c s) :
    ∃ t, exec c s = .next t ∧ (PostureKept s.pc t.pc ∨ TakesFrames c ∧ Rises s.pc t.pc) := by
  have refl := PostureKept.refl s.pc
  have noReset : c = .transmitDone ∨ c = .hostLineBreak → s.hli.resetTaken = false := fun hc => by
    by_contra h
    exact hr (.inr (.inr ⟨hc, by simpa using h⟩))
  cases c with
  | powerUpReset => exact absurd (.inl rfl) hr
  | warmReset => exact absurd (.inr (.inl rfl)) hr
  | lowRunMeasured n => exact ⟨_, rfl, .inl (by simpa using refl)⟩
  | hostLineBreak =>
    refine ⟨_, rfl, .inl ?_⟩
    split
    · rw [enterSync, if_neg (by simp [noReset (.inr rfl)])]
      exact refl
    · exact refl
  | hostFrameComplete f =>
    refine ⟨_, rfl, ?_⟩
    split
    · exact (frameComplete_moved f rfl).imp_right fun h => ⟨.inr (.inr (.inl ⟨_, rfl⟩)), h⟩
    · exact .inl refl
  | hostFrameByteTimeout => exact ⟨_, rfl, .inl (by simpa using refl)⟩
  | hostByteFramingError => exact ⟨_, rfl, .inl (by simpa using refl)⟩
  | hostLineLow20Bits => exact ⟨_, rfl, .inl (by simpa using refl)⟩
  | takeFrame => exact ⟨_, rfl, (takeFrame_moved rfl).imp_right fun h => ⟨.inr (.inl rfl), h⟩⟩
  | transmitStart => exact ⟨_, rfl, .inl (by simpa using refl)⟩
  | transmitDone =>
    exact ⟨_, rfl, (transmitDone_moved (noReset (.inl rfl))).imp_right fun h => ⟨.inr (.inr (.inr (.inr rfl))), h⟩⟩
  | ask q u i => exact ⟨_, rfl, .inl (respond_posture _ _ (by simpa using refl))⟩
  | tellReadOnly q u i => exact ⟨_, rfl, .inl (respond_posture _ _ (doTell_posture _ _ _ refl))⟩
  | tellGeometry q b => exact ⟨_, rfl, .inl (respond_posture _ _ (tellGeometry_posture _ refl))⟩
  | tellOdometer q v => exact ⟨_, rfl, .inl (respond_posture _ _ (by simpa using refl))⟩
  | tellZoneEntry q i b => exact ⟨_, rfl, .inl (respond_posture _ _ (by simpa using refl))⟩
  | tellReflexTable q c l k v => exact ⟨_, rfl, .inl (respond_posture _ _ (by simpa using refl))⟩
  | tellSlipWindow q l b => exact ⟨_, rfl, .inl (respond_posture _ _ (by simpa using refl))⟩
  | tellNoteMask q b => exact ⟨_, rfl, .inl (respond_posture _ _ (by simpa using refl))⟩
  | rise q =>
    refine ⟨_, rfl, ?_⟩
    rcases respond_pc s q (fun s => s.doRise) with e | e <;> rw [e]
    · exact (doRise_moved s).imp_right fun h => ⟨.inl ⟨_, rfl⟩, h⟩
    · exact .inl refl
  | settle q => exact ⟨_, rfl, .inl (respond_posture _ _ (doSettle_posture refl))⟩
  | stride q n d => exact ⟨_, rfl, .inl (respond_posture _ _ (doStride_posture _ _ refl))⟩
  | stop q => exact ⟨_, rfl, .inl (respond_posture _ _ (doStop_posture refl))⟩
  | continueWalk q => exact ⟨_, rfl, .inl (respond_posture _ _ (doContinue_posture refl))⟩
  | reseat q => exact ⟨_, rfl, .inl (respond_posture _ _ (doReseat_posture refl))⟩
  | calibrate q l => exact ⟨_, rfl, .inl (respond_posture _ _ (doCalibrate_posture _ refl))⟩
  | withdraw q l => exact ⟨_, rfl, .inl (respond_posture _ _ (doWithdraw_posture _ refl))⟩
  | admitLeg q l => exact ⟨_, rfl, .inl (respond_posture _ _ (doAdmit_posture _ refl))⟩
  | plan q l n b => exact ⟨_, rfl, .inl (respond_posture _ _ (by simpa using refl))⟩
  | unplan q l t => exact ⟨_, rfl, .inl (respond_posture _ _ (by simpa using refl))⟩
  | unplanAll q l => exact ⟨_, rfl, .inl (respond_posture _ _ (by simpa using refl))⟩
  | swap q l b => exact ⟨_, rfl, .inl (respond_posture _ _ (by simpa using refl))⟩
  | reflexesOn q => exact ⟨_, rfl, .inl (respond_posture _ _ (doReflexesOn_posture refl))⟩
  | reflexesOff q => exact ⟨_, rfl, .inl (respond_posture _ _ (by simpa using refl))⟩
  | resume q => exact ⟨_, rfl, .inl (respond_posture _ _ (doResume_posture refl))⟩
  | reset q => exact ⟨_, rfl, .inl (respond_posture _ _ refl)⟩
  | attitudeDataReady =>
    refine ⟨_, rfl, .inl ?_⟩
    exact ite_posture (s := s.rejectSample) refl refl
  | sampleRead v =>
    refine ⟨_, rfl, .inl ?_⟩
    split
    · exact ite_posture (acceptSample_posture _ refl) refl
    · exact refl
  | staleTimeout => exact ⟨_, rfl, .inl (by simpa using refl)⟩
  | tipStaleTimeout => exact ⟨_, rfl, .inl (tipTest_posture (by simpa using refl))⟩
  | surveyTimeout => exact ⟨_, rfl, .inl (ite_posture (endSurvey_posture refl) refl)⟩
  | riseTimeout =>
    refine ⟨_, rfl, .inl ?_⟩
    split
    · exact beginLowering_posture _ (by simpa using refl)
    · exact refl
  | loweringTimeout =>
    refine ⟨_, rfl, .inl ?_⟩
    split
    · rename_i hb
      exact endLowering_posture _ (by simpa using hb) (by simpa using refl)
    · exact refl
  | shiftStall =>
    refine ⟨_, rfl, .inl ?_⟩
    split
    · exact ite_posture refl (shiftFailed_posture _ _ refl)
    · exact refl
  | swingTimeout =>
    refine ⟨_, rfl, .inl ?_⟩
    split
    · exact ite_posture refl (swingTimedOut_posture _ refl)
    · exact refl
  | propelStall =>
    refine ⟨_, rfl, .inl ?_⟩
    split
    · exact ite_posture refl (propelStalled_posture refl)
    · exact refl
  | pauseEnd =>
    refine ⟨_, rfl, .inl ?_⟩
    split
    · exact ite_posture refl (boundary_posture _ refl)
    · exact refl
  | placeTimeout =>
    refine ⟨_, rfl, .inl ?_⟩
    split
    · exact ite_posture refl (ite_posture (placeExhausted_posture _ refl) (placeUnverified_posture _ refl))
    · exact refl
  | reswingTimeout =>
    refine ⟨_, rfl, .inl ?_⟩
    split
    · exact ite_posture refl (ite_posture (placeExhausted_posture _ refl)
        (ite_posture (raiseCause_posture _ _ refl) (lowerAgain_posture _ (raiseCause_posture _ _ refl))))
    · exact refl
  | steadyTimeout l => exact ⟨_, rfl, .inl refl⟩
  | braceTimeout =>
    refine ⟨_, rfl, .inl ?_⟩
    split
    · exact ite_posture (stageDone_posture refl) refl
    · exact refl
  | crouchTimeout =>
    exact ⟨_, rfl, .inl (ite_posture (ite_posture (setProtect_posture (by simpa using refl)) (by simpa using refl))
      refl)⟩
  | retractLiftTimeout =>
    refine ⟨_, rfl, .inl ?_⟩
    split
    · exact ite_posture (liftTimedOut_posture refl) refl
    · exact refl
  | legRefreshDue l => exact ⟨_, rfl, .inl (ite_posture (by simpa using refl) refl)⟩
  | legCommandSend l => exact ⟨_, rfl, .inl (by simpa using refl)⟩
  | legReportArrival l b =>
    exact ⟨_, rfl, .inl (ite_posture (by simpa using judgeRecord_posture _ _ refl) refl)⟩
  | legReportTimeout l =>
    exact ⟨_, rfl, .inl (ite_posture (by simpa using missReport_posture _ refl) refl)⟩
  | calibTimeout l =>
    refine ⟨_, rfl, .inl ?_⟩
    split
    · exact calibFail_posture _ refl
    · exact calibFail_posture _ refl
    · exact refl
  | calibSettleEnd l =>
    refine ⟨_, rfl, .inl ?_⟩
    split
    · rw [postNote_pc]
      exact calibEnd_posture _ refl
    · exact refl
  | holdTimerExpiry l => exact ⟨_, rfl, .inl (ite_posture (ite_posture (by simpa using refl) refl) refl)⟩
  | hotzSense b =>
    refine ⟨_, rfl, .inl ?_⟩
    split
    · simpa using refl
    · exact refl
  | hotzDriveWindow => exact ⟨_, rfl, .inl refl⟩
  | hostByteReceived b =>
    exact ⟨_, rfl, (receiveByte_moved s b).imp_right fun h => ⟨.inr (.inr (.inr (.inl ⟨_, rfl⟩))), h⟩⟩
  | driveWindowEnd => exact ⟨_, rfl, .inl refl⟩

end Sys2Proof.Machine
end

section
/-! ## The rules of the posture -/

open Sys2Proof Sys2Proof.Machine

/-- Every command but the power-up reset is sound for the posture: a reset that spares the record is the warm one. -/
theorem Sys2Proof.Machine.exec_sound (c : Instr) (s t : State) (hc : c ≠ .powerUpReset) (h : exec c s = .next t) :
    PostureSound s.pc t.pc := by
  by_cases hr : Resets c s
  · rcases hr with rfl | rfl | ⟨rfl | rfl, hreset⟩
    · exact absurd rfl hc
    · obtain rfl := Host.Outcome.next.inj h
      exact s.warmReset_sound
    · obtain rfl := Host.Outcome.next.inj h
      unfold State.transmitDone
      split
      · exact (PostureKept.refl _).toPostureSound
      · exact (PostureKept.refl _).toPostureSound
      · rw [if_pos hreset]
        exact s.warmReset_sound
    · obtain rfl := Host.Outcome.next.inj h
      split
      · rw [State.enterSync, if_pos hreset]
        exact s.warmReset_sound
      · exact (PostureKept.refl _).toPostureSound
  · obtain ⟨u, hu, hk⟩ := exec_posture c s hr
    obtain rfl := Host.Outcome.next.inj (hu.symm.trans h)
    exact hk.elim PostureKept.toPostureSound fun h => h.2.sound

/-- Settles O12: of all commands only the power-up reset is unsound for the record and the latch. -/
theorem geometryAndLatchAreSetOnce : Obligations.GeometryAndLatchAreSetOnce :=
  ⟨fun c s t hc h => (exec_sound c s t hc h).record, fun c s t hc h => (exec_sound c s t hc h).latch⟩

/-- Settles O7: a millisecond leaves the flag and the body state, a power-up reset sets both, and every other command
is sound for the posture. -/
theorem postureSafeExactlyInRest : Obligations.PostureSafeExactlyInRest := by
  intro s t hs h
  unfold step at h
  split at h
  · obtain rfl := Host.Outcome.next.inj h
    exact hs
  · rename_i c rest _
    by_cases hc : c = .powerUpReset
    · subst hc
      obtain rfl := Host.Outcome.next.inj h
      exact ⟨fun _ => rfl, fun _ => rfl⟩
    · exact (exec_sound c _ t hc h).safe hs

/-- Settles O15: a command that is no reset keeps REST, or it is one that takes a message and a rise begins. -/
theorem onlyARiseLeavesRest : Obligations.OnlyARiseLeavesRest := by
  intro c s t hr h hrest hleft
  obtain ⟨u, hu, hk⟩ := exec_posture c s hr
  obtain rfl := Host.Outcome.next.inj (hu.symm.trans h)
  rcases hk with hk | ⟨hc, hk⟩
  · exact absurd (hk.lying hrest) hleft
  · exact ⟨hk.rising, hk.unlatched, hk.written, hc⟩

end

section
/-! ## Resets, a millisecond, and the geometry record -/

open Sys2Proof Sys2Proof.Machine

/-- Settles O3: at reset every leg is LIMP, every list is empty or blank, and nothing runs. -/
theorem invariantsHoldAtReset : Obligations.InvariantsHoldAtReset := by
  refine ⟨?oneInAir, ?stance, ?activity, ?posture, ?targets, ?capacities, ?pending, ?footholds, ?zones, ?sway,
    ?windows, ?levels, ?sync⟩
  case oneInAir =>
    intro k l hk _
    rcases hk with hk | hk <;> cases k <;> cases hk
  case stance => intro l; cases l <;> decide
  case activity =>
    exact
      { recover := by decide, interrupted := by decide, shaped := by decide, reseat := by decide,
        walking := by decide, stepping := fun h => absurd rfl h, placing := fun h => (nomatch h),
        crouching := fun h => absurd rfl h, lifting := fun h => (nomatch h) }
  case posture => unfold SafeOnlyLyingDown; decide
  case targets => intro l; cases l <;> decide
  case capacities => unfold WithinCapacities; decide
  case pending => exact ⟨List.nodup_nil, fun e he => absurd he List.not_mem_nil⟩
  case footholds => intro l; cases l <;> exact ⟨by decide, by decide, by decide, by decide⟩
  case zones => unfold ZonesSound; decide
  case sway => unfold SwayBounded; decide
  case windows =>
    refine ⟨fun l => ?_, fun k l _ hk => ?_⟩
    · unfold WindowSound
      cases l <;> decide
    · cases k <;> cases hk
  case levels => exact ⟨fun l => by cases l <;> decide, rfl⟩
  case sync => exact fun _ => ⟨rfl, rfl, rfl, rfl, rfl, rfl, rfl, rfl⟩

namespace Sys2Proof.Machine

/-- R18: a timer that stands still under the latch. -/
theorem tickWhile_eq (latch : Bool) (period : Nat) (t : Timer) :
    tickWhile (!latch) period t = if latch = true then t else t.map fun n => min period (n + 1) := by
  cases latch <;> rfl

theorem Phase.period_eq (f : Phase) : f.period = if f = .swing then 3000 else 2000 := by cases f <;> rfl

theorem CalibState.period_eq (c : CalibState) : c.period = if c = .settle then 250 else 3000 := by cases c <;> rfl

end Sys2Proof.Machine

/-- Settles O22: the values of either reset, and what a millisecond counts. -/
theorem resetsAndMillisecondsLeaveTheirValues : Obligations.ResetsAndMillisecondsLeaveTheirValues := by
  refine ⟨fun s => ⟨rfl, ?_⟩, fun s => ⟨s.warmReset, rfl, ?_⟩, fun s hs => ?_⟩
  · intro r
    and_intros
    all_goals try rfl
    · intro l
      cases l <;> decide
    · decide
    · decide
    · decide
  · refine ⟨?_, rfl, rfl, fun l => by cases l <;> rfl, rfl, rfl, rfl, rfl, rfl, rfl, rfl, rfl, rfl⟩
    simp only [State.warmReset]
    cases s.pc.postureSafe <;> rfl
  · simp only [step, hs, State.tick, tickWhile_eq, Phase.period_eq, CalibState.period_eq, tickTimer]
    rfl

namespace Sys2Proof.Machine

/-- R191: where the HLI can take a message, the message is judged and its ANSWER stands in the slot. -/
theorem State.respond_of_ready {s : State} (h : Ready s) (q : Byte) (f : State → Reply) :
    s.respond q f = (f s).state.answered q (f s).status (f s).payload := by
  obtain ⟨hlink, hslot, hreset⟩ := h
  simp [State.respond, State.mayTakeFrame, hlink, hslot, hreset, State.answer, State.answered]

/-- R4: a geometry payload has 29 bytes. -/
theorem length_of_geometryOfBytes {b : List Byte} {g : Geometry} (h : geometryOfBytes b = some g) : b.length = 29 := by
  unfold geometryOfBytes at h
  split at h
  · rfl
  · cases h

end Sys2Proof.Machine

/-- Settles O29: the tests of R4 in their order. -/
theorem geometryIsToldInOrder : Obligations.GeometryIsToldInOrder := by
  intro s q payload ready
  have told : exec (.tellGeometry q payload) s = .next ((s.tellGeometry payload).state.answered q
      (s.tellGeometry payload).status (s.tellGeometry payload).payload) :=
    congrArg _ (State.respond_of_ready ready q _)
  rw [told]
  refine ⟨fun hp => ?_, fun hp hw => ?_, fun hp hw hlen => ?_, fun g hp hw hg hr => ?_, fun g hp hw hg hr => ?_⟩
  · simp [State.tellGeometry, hp, State.reply, Payload.empty]
  · simp [State.tellGeometry, hp, hw, State.reply, Payload.empty]
  · have none : geometryOfBytes payload = .none := by
      by_contra h
      obtain ⟨g, hg⟩ := Option.ne_none_iff_exists'.mp h
      exact hlen (length_of_geometryOfBytes hg)
    simp [State.tellGeometry, hp, hw, none, State.reply, Payload.empty]
  · simp [State.tellGeometry, hp, hw, hg, hr, State.reply, Payload.empty]
  · simp [State.tellGeometry, hp, hw, hg, hr, State.reply, Payload.empty]

end

section
/-! ## Rising, settling and lowering

What a rise and a lowering write and leave alone, from the parts they are made of. -/

namespace Sys2Proof.Machine

/-- What a change of the stance set leaves alone where no standing body is tested, and what it makes of the set. -/
structure Restanced (s t : State) : Prop where
  pc : t.pc = s.pc
  atp : t.atp = s.atp
  ssq : t.ssq = s.ssq
  pls : t.pls = s.pls
  fhq : t.fhq = s.fhq
  ztb : t.ztb = s.ztb
  llc : t.llc = s.llc
  tdu : t.tdu = s.tdu
  hli : t.hli = s.hli
  unlisted : t.rxu.unlisted = s.rxu.unlisted
  listed : t.rxu.pending.Sublist s.rxu.pending
  sway : t.scu.sway = s.scu.sway
  stance : t.scu.stance = s.stanceDerived
  slip : ∀ k, (s.slipOf k).slip = false ∧ (s.slipOf k).lowForce = 0 →
    (t.slipOf k).slip = false ∧ (t.slipOf k).lowForce = 0

namespace State

variable {s : State}

theorem stanceUpdate_restanced (hb : s.pc.body.standing = false) : Restanced s s.stanceUpdate := by
  rcases stanceUpdate_cases_of_not_standing hb with ⟨h, e⟩ | e <;> rw [e]
  · exact ⟨rfl, rfl, rfl, rfl, rfl, rfl, rfl, rfl, rfl, rfl, .refl _, rfl, h.symm, fun _ h => h⟩
  · exact ⟨restanced_pc s, restanced_atp s, restanced_ssq s, restanced_pls s, restanced_fhq s, restanced_ztb s,
      restanced_llc s, restanced_tdu s, restanced_hli s, restanced_unlisted s, restanced_sublist s, restanced_sway s,
      restanced_stance s, fun _ h => restanced_slipOf h⟩

/-! ### What a body that stands no longer keeps -/

@[simp] theorem unstood_pc (s : State) (b : BodyState) : (s.unstood b).pc = { s.pc with body := b } :=
  endAllSlip_pc _
@[simp] theorem unstood_atp (s : State) (b : BodyState) : (s.unstood b).atp = s.atp := endAllSlip_atp _
@[simp] theorem unstood_ssq (s : State) (b : BodyState) : (s.unstood b).ssq = s.ssq := endAllSlip_ssq _
@[simp] theorem unstood_pls (s : State) (b : BodyState) : (s.unstood b).pls = s.pls := endAllSlip_pls _
@[simp] theorem unstood_fhq (s : State) (b : BodyState) : (s.unstood b).fhq = s.fhq := endAllSlip_fhq _
@[simp] theorem unstood_ztb (s : State) (b : BodyState) : (s.unstood b).ztb = s.ztb := endAllSlip_ztb _
@[simp] theorem unstood_llc (s : State) (b : BodyState) : (s.unstood b).llc = s.llc := endAllSlip_llc _
@[simp] theorem unstood_tdu (s : State) (b : BodyState) : (s.unstood b).tdu = s.tdu := endAllSlip_tdu _
@[simp] theorem unstood_hli (s : State) (b : BodyState) : (s.unstood b).hli = s.hli := endAllSlip_hli _
@[simp] theorem unstood_unlisted (s : State) (b : BodyState) : (s.unstood b).rxu.unlisted = s.rxu.unlisted :=
  endAllSlip_unlisted _
@[simp] theorem unstood_sway (s : State) (b : BodyState) : (s.unstood b).scu.sway = s.scu.sway := by simp [unstood]
@[simp] theorem unstood_stance (s : State) (b : BodyState) : (s.unstood b).scu.stance = s.scu.stance := by simp [unstood]

/-! ### A rise -/

/-- The tests of R6, as the statement chains them, are those of the model. -/
theorem doRise_eq (s : State) :
    s.doRise = match riseRefusal s with
      | some st => s.reply st
      | none => s.beginRise.reply .ok := by
  have calibrating : s.calibrating = Leg.all.any fun l => decide ((s.link l).calib ≠ .idle) := by
    simp only [calibrating]
    congr 1
    funext l
    cases (s.link l).calib <;> rfl
  have uncalibrated : (!(Leg.all.all fun l => !s.admitted l || (s.link l).firstDone)) =
      Leg.all.any fun l => decide ((s.link l).withdrawn = false ∧ (s.link l).firstDone = false) := by
    rw [List.not_all_eq_any_not]
    congr 1
    funext l
    cases hw : (s.link l).withdrawn <;> simp [admitted, hw]
  have withdrawn : (fun l => !s.admitted l) = fun l => (s.link l).withdrawn := by
    funext l
    simp [admitted]
  have unlinked : (!(Leg.all.all fun l => !s.admitted l || s.linkOk l)) =
      Leg.all.any fun l => decide ((s.link l).withdrawn = false ∧ (s.link l).link ≠ .ok) := by
    rw [List.not_all_eq_any_not]
    congr 1
    funext l
    cases hw : (s.link l).withdrawn <;> cases hf : (s.link l).link <;> simp [admitted, linkOk, hw, hf]
  unfold doRise riseRefusal
  rw [calibrating, uncalibrated, withdrawn, unlinked]
  cases s.pc.protect
  case true => rfl
  case false =>
    cases s.pc.body
    case rest =>
      cases s.pc.written
      case false => rfl
      case true =>
        simp only [Bool.false_eq_true, if_false, reduceCtorEq, or_self, ne_eq, not_true_eq_false, Bool.not_true]
        split_ifs <;> rfl
    all_goals rfl

/-- R7: the parts of a rise up to the change of the stance set. -/
def risen (s : State) : State :=
  (setBody { s with pc.postureSafe := false } .rising .host).markRise.standAll riseTarget

theorem beginRise_restanced (hb : s.pc.body = .rest) : Restanced s.risen s.beginRise := by
  have rising : s.risen.pc.body = .rising := by
    simp [risen, markRise, setBody_body, hb, BodyState.mayBecome]
  exact stanceUpdate_restanced (by rw [rising]; rfl)

/-- R7: before the legs are commanded a rise changes the posture, and what a body that stands no longer has. -/
theorem risen_eq (hb : s.pc.body = .rest) :
    s.risen = standAll riseTarget
      ((unstood { s with pc.postureSafe := false } .rising).postNote (.body .rest .rising .host)).markRise := by
  unfold risen
  rw [setBody_of_not_standing _ (by simp [hb, BodyState.mayBecome]) rfl (by simp [hb])]
  simp only [hb]

theorem riseTarget_setCmd (s : State) {k l : Leg} (p : Point) (c : Int) (_ : k ≠ l) :
    (s.setCmd l .stance p c).riseTarget k = s.riseTarget k := by
  simp [riseTarget]

/-- R7: what an accepted RISE writes and leaves alone. -/
theorem beginRise_effect (hb : s.pc.body = .rest) :
    (∀ l, s.beginRise.cmdOf l =
        if s.admitted l then
          { mode := .stance, target := clampPoint (s.riseTarget l), clearance := (s.cmdOf l).clearance }
        else s.cmdOf l) ∧
      s.beginRise.atp = s.atp ∧ s.beginRise.fhq = s.fhq ∧ s.beginRise.ztb = s.ztb ∧ s.beginRise.tdu = s.tdu ∧
      s.beginRise.pls = s.pls ∧ s.beginRise.rxu.unlisted = s.rxu.unlisted ∧
      s.beginRise.ssq.uncommanded = s.ssq.uncommanded ∧
      s.beginRise.hli = (s.postNote (.body .rest .rising .host)).hli := by
  have r := beginRise_restanced hb
  have e := risen_eq hb
  refine ⟨fun l => ?_, ?_, ?_, ?_, ?_, ?_, ?_, ?_, ?_⟩
  · have same : s.beginRise.cmdOf l = s.risen.cmdOf l := by simp [cmdOf, r.ssq]
    rw [same, e, standAll_cmdOf riseTarget_setCmd]
    simp [markRise, admitted, link, cmdOf, riseTarget]
  · rw [r.atp, e]; simp [markRise]
  · rw [r.fhq, e]; simp [markRise]
  · rw [r.ztb, e]; simp [markRise]
  · rw [r.tdu, e]; simp [markRise]
  · rw [r.pls, e]; simp [markRise]
  · rw [r.unlisted, e]; simp [markRise]
  · rw [r.ssq, e]; simp [markRise]
  · rw [r.hli, e, standAll_hli]
    exact postNote_hli_congr _ (by simp)

/-! ### A lowering -/

/-- R12: the parts of a lowering up to the change of the stance set. -/
def sunk (s : State) (r : BodyReason) : State := ((s.setBody .lowering r).standAll downTarget).markLowering

theorem sunk_eq (r : BodyReason) (h : s.pc.body.mayBecome .lowering = true) :
    s.sunk r = (standAll downTarget
      ((s.unstood .lowering).postNote (.body s.pc.body .lowering r))).markLowering := by
  have hne : BodyState.lowering ≠ s.pc.body := fun he => by rw [← he] at h; cases h
  unfold sunk
  rw [setBody_of_not_standing r h rfl hne]

theorem downTarget_setCmd (s : State) {k l : Leg} (p : Point) (c : Int) (h : k ≠ l) :
    (s.setCmd l .stance p c).downTarget k = s.downTarget k := by
  simp [downTarget, setCmd_cmdOf_of_ne _ _ _ _ h]

theorem beginLowering_restanced (r : BodyReason) (h : s.pc.body.mayBecome .lowering = true) :
    Restanced (s.sunk r) (s.beginLowering r) :=
  stanceUpdate_restanced (by rw [sunk_eq r h]; simp [markLowering, BodyState.standing])

/-- R12, R133, R139: a lowering makes of a state what the statements say it does. -/
theorem beginLowering_lowered (r : BodyReason) (h : s.pc.body.mayBecome .lowering = true) (hp : PendingSound s) :
    lowered s (s.beginLowering r) ∧
      (s.beginLowering r).hli = (s.postNote (.body s.pc.body .lowering r)).hli := by
  have u := beginLowering_restanced r h
  have e := sunk_eq r h
  obtain ⟨-, sound⟩ := hp
  obtain ⟨listed, noSlip⟩ := unstood_listed (s := s) .lowering fun l hl => (sound _ hl).1 rfl
  have cmd : ∀ l, (s.beginLowering r).cmdOf l =
      if s.admitted l then
        { mode := .stance, target := clampPoint (s.downTarget l), clearance := (s.cmdOf l).clearance }
      else s.cmdOf l := fun l => by
    have same : (s.beginLowering r).cmdOf l = (s.sunk r).cmdOf l := by simp [cmdOf, u.ssq]
    have moved := standAll_cmdOf downTarget_setCmd ((s.unstood .lowering).postNote (.body s.pc.body .lowering r)) l
    rw [same, e]
    simpa [markLowering, cmdOf, admitted, link, downTarget] using moved
  refine ⟨⟨?_, ?_, ?_, ?_, ?_, fun l hw => ?_, fun l hw => ?_, fun l => ?_, fun c hc => ?_, fun l => ⟨?_, ?_⟩, ?_, ?_,
    ?_, ?_, ?_, ?_⟩, ?_⟩
  · rw [u.pc, e]; simp [markLowering]
  · rw [u.pc, e]; simp [markLowering]
  · rw [u.pc, e]; simp [markLowering]
  · rw [u.ssq, e]; simp [markLowering]
  · rw [u.sway, e]; simp [markLowering]
  · rw [modeOf, cmd, if_pos (by simp [admitted, hw])]
    exact ⟨rfl, rfl⟩
  · rw [cmd, if_neg (by simp [admitted, hw])]
  · rw [u.pc, e, markLowering_lowered, standAll_admitted, standAll_linkOk]
    simp [admitted, linkOk, link]
  · have hm := u.listed.subset hc
    rw [e] at hm
    simp only [markLowering, removeEdges_pending_list, List.mem_filter, standAll_rxu, postNote_rxu] at hm
    obtain ⟨hm, hlevel⟩ := hm
    refine ⟨listed.subset hm, ?_⟩
    obtain ⟨cause, leg⟩ := c
    cases cause with
    | overload => rfl
    | slip => exact absurd hm (noSlip leg)
    | _ => cases hlevel
  · rw [verifiedOf, u.ssq, e]; simp [markLowering, verifiedOf]
  · refine u.slip l ?_
    rw [e, markLowering_slipOf, standAll_slip, standAll_lowForce]
    simpa [slipOf] using unstood_slipOf s .lowering l
  · rw [u.atp, e]; simp [markLowering]
  · rw [u.fhq, e]; simp [markLowering]
  · rw [u.ztb, e]; simp [markLowering]
  · rw [u.tdu, e]; simp [markLowering]
  · rw [u.pc, e]; simp [markLowering]
  · rw [u.pc, e]; simp [markLowering]
  · rw [u.hli, e]
    simp only [markLowering, removeEdges_hli, standAll_hli]
    exact postNote_hli_congr _ (by simp)

/-- R13, R14: what the end of a lowering writes and leaves alone. -/
theorem endLowering_effect (r : BodyReason) (hb : s.pc.body = .lowering) :
    (∀ l, (s.endLowering r).cmdOf l =
        { mode := .limp, target := clampPoint (s.cmdOf l).target, clearance := (s.cmdOf l).clearance } ∧
      (s.endLowering r).verifiedOf l = false ∧ (s.endLowering r).inStance l = false) ∧
      (s.endLowering r).scu.sway = ⟨0, 0⟩ ∧ (s.endLowering r).hli = (s.postNote (.body .lowering .rest r)).hli ∧
      (s.endLowering r).atp = s.atp ∧ (s.endLowering r).fhq = s.fhq ∧ (s.endLowering r).ztb = s.ztb ∧
      (s.endLowering r).tdu = s.tdu ∧ (s.endLowering r).ssq.uncommanded = s.ssq.uncommanded := by
  have u : Restanced s.laidDown s.laidDown.stanceUpdate :=
    stanceUpdate_restanced (by simp [hb, BodyState.standing])
  have hbody : s.laidDown.stanceUpdate.pc.body = .lowering := by rw [u.pc]; simpa using hb
  have e : s.endLowering r = (s.laidDown.stanceUpdate.unstood .rest).postNote (.body .lowering .rest r) := by
    rw [endLowering_eq, setBody_of_not_standing r (by simp [hbody, BodyState.mayBecome]) rfl (by simp [hbody]), hbody]
  have hssq : (s.endLowering r).ssq = s.limpAll.ssq := by
    rw [e, postNote_ssq, unstood_ssq, u.ssq, laidDown_ssq]
  refine ⟨fun l => ⟨?_, ?_, ?_⟩, ?_, ?_, ?_, ?_, ?_, ?_, ?_⟩
  · rw [cmdOf, hssq]; exact limpAll_cmdOf s l
  · rw [verifiedOf, hssq]; exact limpAll_verifiedOf s l
  · have unverified : s.laidDown.verifiedOf l = false := by
      rw [verifiedOf, laidDown_ssq]
      exact limpAll_verifiedOf s l
    rw [inStance, e, postNote_scu, unstood_stance, u.stance]
    simp [stanceDerived, unverified]
  · rw [e, postNote_scu, unstood_sway, u.sway]; rfl
  · rw [e]
    refine postNote_hli_congr _ ?_
    rw [unstood_hli, u.hli, laidDown_hli]
  · rw [e, postNote_atp, unstood_atp, u.atp, laidDown_atp]
  · rw [e, postNote_fhq, unstood_fhq, u.fhq, laidDown_fhq]
  · rw [e, postNote_ztb, unstood_ztb, u.ztb, laidDown_ztb]
  · rw [e, postNote_tdu, unstood_tdu, u.tdu, laidDown_tdu]
  · rw [hssq, limpAll_uncommanded]

end State
end Sys2Proof.Machine
end

section
/-! ## The rules of a rise, a SETTLE and the posture timers -/

open Sys2Proof Sys2Proof.Machine

/-- Settles O34: the tests of R6 in their order, then the rise of R7 from REST. -/
theorem riseIsJudgedAndBegins : Obligations.RiseIsJudgedAndBegins := by
  have told (s : State) (q : Byte) (ready : Ready s) : exec (.rise q) s =
      .next (s.doRise.state.answered q s.doRise.status s.doRise.payload) :=
    congrArg _ (State.respond_of_ready ready q _)
  have accepted (s : State) (q : Byte) (ready : Ready s) (h : riseRefusal s = none) :
      exec (.rise q) s = .next (s.beginRise.answered q .ok (.bytes [])) := by
    rw [told s q ready, State.doRise_eq, h]
    rfl
  have lying (s : State) (h : riseRefusal s = none) : s.pc.body = .rest := by
    by_contra hb
    unfold riseRefusal at h
    split_ifs at h
  refine ⟨fun s q ready => ⟨fun st h => ?_, fun h => ?_⟩, fun s q ready h => ?_⟩
  · rw [told s q ready, State.doRise_eq, h]
    rfl
  · have hb := lying s h
    obtain ⟨-, -, -, -, -, -, -, -, hhli⟩ := State.beginRise_effect hb
    refine ⟨_, accepted s q ready h, ?_, ?_⟩
    · simp [State.answered, State.beginRise_pc hb]
    · simp [State.answered, hhli]
  · have hb := lying s h
    have ht := accepted s q ready h
    have hpc := State.beginRise_pc hb
    obtain ⟨hcmd, hatp, hfhq, hztb, htdu, hpls, hrxu, hssq, -⟩ := State.beginRise_effect hb
    generalize s.beginRise = t at ht hpc hcmd hatp hfhq hztb htdu hpls hrxu hssq
    refine ⟨_, ht, by simp [State.answered, hpc], by simp [State.answered, hpc],
      by simp [State.answered, hpc], by simp [State.answered, hpc], by simp [State.answered, hpc],
      by simp [State.answered, hpc], fun l hw => ?_, fun l hw => ?_, hatp, hfhq, hztb, htdu, hpls,
      Reflexes.stack_of_unlisted hrxu, Strider.odometer_of_uncommanded hssq⟩
    · have cmd := hcmd l
      rw [if_pos (by simp [State.admitted, hw])] at cmd
      refine ⟨congrArg LegCmd.mode cmd, (congrArg LegCmd.target cmd).trans ?_⟩
      cases l <;> simp [State.riseTarget, outward]
    · have cmd := hcmd l
      rwa [if_neg (by simp [State.admitted, hw])] at cmd

/-- Settles O35: the body states of R11, and the lowering of R12. -/
theorem settleIsJudgedByTheBodyState : Obligations.SettleIsJudgedByTheBodyState := by
  intro s q ready told
  have ht : told = .next (s.doSettle.state.answered q s.doSettle.status s.doSettle.payload) :=
    congrArg _ (State.respond_of_ready ready q _)
  rw [ht]
  refine ⟨fun hb => ?_, fun hb => ?_, fun hb hr => ?_, fun hb hr hp => ?_⟩
  · simp [State.doSettle, hb, State.reply, Payload.empty]
  · rcases hb with hb | hb | hb | hb <;> simp [State.doSettle, hb, State.reply, Payload.empty]
  · rcases hb with hb | hb | hb <;> simp [State.doSettle, hb, hr, State.reply, Payload.empty]
  · have settled : s.doSettle = (s.beginLowering .host).reply .ok := by
      rcases hb with hb | hb | hb <;> simp [State.doSettle, hb, hr]
    have may : s.pc.body.mayBecome .lowering = true := by
      rcases hb with hb | hb | hb <;> simp [hb, BodyState.mayBecome]
    obtain ⟨low, hhli⟩ := State.beginLowering_lowered .host may hp
    rw [settled]
    generalize s.beginLowering .host = t at low hhli
    refine ⟨_, rfl, low, ?_⟩
    simp [State.reply, State.answered, hhli, Payload.empty]

/-- Settles O36: the FAULT note first, then the lowering of R12, or its end by R13. -/
theorem postureTimersRunOut : Obligations.PostureTimersRunOut := by
  intro s
  refine ⟨fun hb hp => ?_, fun hb => ?_⟩
  · have run : exec .riseTimeout s = .next ((s.postFault .riseFail none).beginLowering .timeout) := by
      simp [exec, execRiseTimeout, hb]
    have noted := State.postNote_eq s (.fault .riseFail none none)
    have hpc : (s.postFault .riseFail none).pc.body = .rising := by simpa using hb
    obtain ⟨low, hhli⟩ := State.beginLowering_lowered (s := s.postFault .riseFail none) .timeout
      (by rw [hpc]; rfl) (by unfold State.postFault; rw [noted]; exact hp)
    refine ⟨_, run, ?_, ?_⟩
    · unfold State.postFault at low ⊢
      rw [noted] at low ⊢
      exact low
    · rw [hhli, hpc]
      rfl
  · have run : exec .loweringTimeout s = .next ((s.postFault .settleTimeout none).endLowering .timeout) := by
      simp [exec, execLoweringTimeout, hb]
    have hpc : (s.postFault .settleTimeout none).pc.body = .lowering := by simpa using hb
    have ended := State.endLowering_pc .timeout hpc
    obtain ⟨legs, hsway, hhli, hatp, hfhq, hztb, htdu, hssq⟩ := State.endLowering_effect .timeout hpc
    refine ⟨_, run, by rw [ended], by rw [ended], by rw [ended], hsway, fun l => ?_, hhli, ?_, ?_, ?_, ?_, ?_, ?_⟩
    · obtain ⟨hcmd, hverified, hstance⟩ := legs l
      refine ⟨by rw [State.modeOf, hcmd], hverified, hstance, ?_⟩
      rw [hcmd]
      simp [State.cmdOf]
    · rw [hatp, State.postFault_atp]
    · rw [hfhq, State.postFault_fhq]
    · rw [hztb, State.postFault_ztb]
    · rw [htdu, State.postFault_tdu]
    · rw [ended, State.postFault_pc]
    · rw [Strider.odometer_of_uncommanded hssq, State.postFault_ssq]

end

section
/-! ## The end of a reflex

What a popped context resumes (R151, R152), and what the resumption leaves alone: the pose, which is all but the walking
and placing in progress and the marks of the TIP test. -/

namespace Sys2Proof.Machine

/-- The SCU's state but for the survey and the marks of the TIP test. -/
def Support.untested (x : Support) : Support :=
  { x with survey := false, surveyTimer := none, tipCondition := false, tipRaised := false }

/-- The commands, the contact-verified flags and the odometer, of the walking state. -/
def Strider.stanced (x : Strider) : Strider :=
  { Strider.atReset with cmd := x.cmd, verified := x.verified, odometer := x.odometer }

namespace State

variable {s t : State}

/-- The state but for what is under way in the SSQ and its placement stage, and the marks of the TIP test. -/
def pose (s : State) : State := { s with scu := s.scu.untested, ssq := s.ssq.stanced, pls := .atReset }

/-- R39: a test that finds no TIP leaves the pose, the walking and the placing. -/
theorem tipTest_of_not_holds (h : s.tipHolds = false) :
    s.tipTest.pose = s.pose ∧ s.tipTest.ssq = s.ssq ∧ s.tipTest.pls = s.pls := by
  rcases tipTestWith_cases raiseTip s with ⟨-, e⟩ | ⟨-, -, e⟩ | ⟨-, h', -⟩ | ⟨-, h', -⟩
  · unfold tipTest
    rw [e]
    exact ⟨rfl, rfl, rfl⟩
  · unfold tipTest
    rw [e]
    exact ⟨rfl, rfl, rfl⟩
  · rw [h] at h'
    cases h'
  · rw [h] at h'
    cases h'

theorem postNote_pose (s : State) (n : Note) : (s.postNote n).pose = { s.pose with hli := (s.postNote n).hli } := by
  rw [postNote_eq]
  rfl

/-- R5: a change to a state in which a body stands moves the body state and posts the note. -/
theorem setBody_pose {b : BodyState} (r : BodyReason) (h : s.pc.body.mayBecome b = true) (hb : b.standing = true)
    (hne : b ≠ s.pc.body) :
    (s.setBody b r).pose = { s.pose with pc.body := b, hli := (s.postNote (.body s.pc.body b r)).hli } := by
  have hhli := setBody_hli r h hne
  unfold setBody at hhli ⊢
  simp only [h, hb, hne, if_true, if_false] at hhli ⊢
  rw [postNote_pose, hhli]
  split <;> rfl

/-- R151, R152: the running reflex ended and its context popped. -/
def unreflexed (s : State) (below : List Context) : State :=
  { s.idlePhase with
    rxu.stack := below, rxu.re1 := s.rxu.re2, rxu.running := none, rxu.waiting := s.rxu.waiting && !s.rxu.re2,
    rxu.stageTimer := none, rxu.liftTimer := none, pls.reseatSet := [], pls.reseatLeg := none }

/-- R151, R152: the same, with the note. -/
def popped (s : State) (r : Running) (below : List Context) (failed : Bool) : State :=
  (s.unreflexed below).postNote
    (.reflex (if failed then .failed else .done) r.trigger r.leg (some r.kind) below.length)

theorem endReflex_eq {r : Running} {c : Context} {below : List Context} (hr : s.rxu.running = some r)
    (hs : s.rxu.stack = c :: below) (failed : Bool) :
    s.endReflex failed = (s.popped r below failed).resumeContext c failed := by
  unfold endReflex
  rw [hr, hs]
  rfl

@[simp] theorem popped_pc (s : State) (r : Running) (below : List Context) (f : Bool) :
    (s.popped r below f).pc = s.pc := postNote_pc _ _

@[simp] theorem popped_ssq (s : State) (r : Running) (below : List Context) (f : Bool) :
    (s.popped r below f).ssq = { s.ssq with phase := .idle, stepping := none, phaseTimer := none } := postNote_ssq _ _

@[simp] theorem popped_pls (s : State) (r : Running) (below : List Context) (f : Bool) :
    (s.popped r below f).pls = { s.pls with reseatSet := [], reseatLeg := none } := postNote_pls _ _

@[simp] theorem popped_ztb (s : State) (r : Running) (below : List Context) (f : Bool) :
    (s.popped r below f).ztb = s.ztb := postNote_ztb _ _

@[simp] theorem popped_llc (s : State) (r : Running) (below : List Context) (f : Bool) :
    (s.popped r below f).llc = s.llc := postNote_llc _ _

@[simp] theorem popped_tdu (s : State) (r : Running) (below : List Context) (f : Bool) :
    (s.popped r below f).tdu = s.tdu := postNote_tdu _ _

theorem popped_hli (s : State) (r : Running) (below : List Context) (f : Bool) :
    (s.popped r below f).hli =
      (s.postNote (.reflex (if f then .failed else .done) r.trigger r.leg (some r.kind) below.length)).hli :=
  postNote_hli_congr (s := s.unreflexed below) _ rfl

/-- The pose in which a reflex over one context ends: the body state resumed, the Reflex Unit at rest, and the line. -/
def endedPose (s : State) (b : BodyState) (line : HostLink) : State :=
  { s.pose with pc.body := b, hli := line,
                rxu := { s.rxu with stack := [], re1 := s.rxu.re2, running := none,
                                    waiting := s.rxu.waiting && !s.rxu.re2, stageTimer := none, liftTimer := none } }

theorem popped_pose (s : State) (r : Running) (f : Bool) :
    (s.popped r [] f).pose =
      s.endedPose s.pc.body
        (s.postNote (.reflex (if f then .failed else .done) r.trigger r.leg (some r.kind) 0)).hli := by
  rw [← List.length_nil (α := Context), ← popped_hli]
  exact postNote_pose _ _

/-- A pose that ends a reflex is what the statements say of it. -/
theorem ended_of_pose {noted : State} {b : BodyState} {reason : BodyReason} (hp : s.rxu.pending = [])
    (h : t.pose = s.endedPose b (noted.postNote (.body .recover b reason)).hli) : ended s noted t b reason := by
  have rxu := congrArg State.rxu h
  have ssq := congrArg State.ssq h
  exact ⟨(congrArg State.pc h :), (congrArg Reflexes.stack rxu :), (congrArg Reflexes.running rxu :),
    (congrArg Reflexes.re1 rxu :), (congrArg Reflexes.stageTimer rxu :), (congrArg Reflexes.liftTimer rxu :),
    (congrArg Reflexes.pending rxu :).trans hp, (congrArg Strider.cmd ssq :), (congrArg Strider.verified ssq :),
    (congrArg Strider.odometer ssq :), (congrArg State.hli h :), (congrArg (fun s => s.scu.sway) h :),
    (congrArg State.atp h :), (congrArg State.fhq h :), (congrArg State.ztb h :), (congrArg State.tdu h :),
    (congrArg State.llc h :)⟩

/-- R151, R141: a reflex whose one context is in place, with no TIP to raise and nothing pending, has ended. -/
theorem settle_of_resumed {u : State} {v : Verdict} {b : BodyState} {line : HostLink} (hp : s.rxu.pending = [])
    (ht : s.tipHolds = false) (hb : b ≠ .recover) (hv : v ≠ .running)
    (he : s.endReflex (v == .failed) = (u, .running)) (hu : u.pose = s.endedPose b line) :
    ∃ t, s.settle v = t ∧ t.pose = s.endedPose b line ∧ t.ssq = u.ssq ∧ t.pls = u.pls := by
  have body : u.pc.body = b := congrArg (fun s => s.pc.body) hu
  have holds : u.tipHolds = false := (congrArg tipHolds hu).trans ht
  obtain ⟨tpose, tssq, tpls⟩ := tipTest_of_not_holds holds
  have tested : u.resumedTest = u.tipTest := by
    unfold resumedTest
    rw [body, if_neg hb]
  have nothing : u.tipTest.rxu.pending = [] := (congrArg (fun s => s.rxu.pending) (tpose.trans hu)).trans hp
  refine ⟨u.tipTest, ?_, tpose.trans hu, tssq, tpls⟩
  unfold settle settleFuel
  rw [settleReflex_of_resumed _ hv he, tested]
  simp [mayTakePending, nothing]

/-- The same, from what the popped context resumes. -/
theorem settle_over_one_context {u : State} {r : Running} {c : Context} {v : Verdict} {b : BodyState} {line : HostLink}
    (hr : s.rxu.running = some r) (hs : s.rxu.stack = [c]) (hp : s.rxu.pending = []) (ht : s.tipHolds = false)
    (hv : v ≠ .running) (hb : b ≠ .recover)
    (he : (s.popped r [] (v == .failed)).resumeContext c (v == .failed) = (u, .running))
    (hu : u.pose = s.endedPose b line) :
    ∃ t, s.settle v = t ∧ t.pose = s.endedPose b line ∧ t.ssq = u.ssq ∧ t.pls = u.pls :=
  settle_of_resumed hp ht hb hv ((endReflex_eq hr hs _).trans he) hu

/-- R5: a body state resumed, from the pose of the popped context or of another body state resumed on the way. -/
theorem setBody_endedPose {q noted : State} {a b : BodyState} (reason : BodyReason)
    (hq : q.pose = s.endedPose a noted.hli) (h : a.mayBecome b = true) (hb : b.standing = true) (hne : b ≠ a) :
    (q.setBody b reason).pose = s.endedPose b (noted.postNote (.body a b reason)).hli := by
  have body : q.pc.body = a := (congrArg (fun s => s.pc.body) hq :)
  have line : q.hli = noted.hli := (congrArg State.hli hq :)
  rw [setBody_pose reason (body ▸ h) hb (body ▸ hne), hq, body, postNote_hli_congr _ line]
  rfl

/-- R151: the pose of the popped context, in RECOVER, with the note of the reflex on the line. -/
theorem popped_endedPose {noted : State} {r : Running} {f : Bool} (hb : s.pc.body = .recover)
    (hn : noted.hli = (s.postNote (.reflex (if f then .failed else .done) r.trigger r.leg (some r.kind) 0)).hli) :
    (s.popped r [] f).pose = s.endedPose .recover noted.hli := by
  rw [popped_pose, hb, hn]

/-! ### A walk resumed -/

/-- R151: the count and direction of a WALK context restored, and the body state WALK. -/
def walkAgain (s : State) (count : Nat) (dir : Direction) : State :=
  setBody { s with ssq.count := count, ssq.dir := dir } .walk .done

@[simp] theorem walkAgain_ssq (s : State) (k : Nat) (d : Direction) :
    (s.walkAgain k d).ssq = { s.ssq with count := k, dir := d } := setBody_ssq ..
@[simp] theorem walkAgain_pls (s : State) (k : Nat) (d : Direction) : (s.walkAgain k d).pls = s.pls := setBody_pls ..
@[simp] theorem walkAgain_ztb (s : State) (k : Nat) (d : Direction) : (s.walkAgain k d).ztb = s.ztb := setBody_ztb ..
@[simp] theorem walkAgain_tdu (s : State) (k : Nat) (d : Direction) : (s.walkAgain k d).tdu = s.tdu := setBody_tdu ..

theorem walkAgain_pose {q noted : State} (hq : q.pose = s.endedPose .recover noted.hli) (k : Nat) (d : Direction) :
    (q.walkAgain k d).pose = s.endedPose .walk (noted.postNote (.body .recover .walk .done)).hli :=
  setBody_endedPose .done (q := { q with ssq.count := k, ssq.dir := d }) hq rfl rfl (by decide)

theorem resumeContext_propel (s : State) (leg : Option Leg) (i k : Nat) (d : Direction) (a : Nat) :
    s.resumeContext (.walk leg i .propel k d a) false =
      ({ s.walkAgain k d with ssq.phase := .propel, ssq.stepping := leg, ssq.index := i, ssq.phaseTimer := some 0 },
        .running) := rfl

theorem resumeContext_pause (s : State) (leg : Option Leg) (i k : Nat) (d : Direction) (a : Nat) :
    s.resumeContext (.walk leg i .pause k d a) false = ((s.walkAgain k d).beginPause, .running) := rfl

/-- R70: any other phase is resumed as a fresh SHIFT. -/
theorem resumeContext_shift (s : State) {f : Phase} (hf : f ≠ .propel) (hp : f ≠ .pause) (l : Leg) (i k : Nat)
    (d : Direction) (a : Nat) :
    s.resumeContext (.walk (some l) i f k d a) false = ((s.walkAgain k d).beginStepShift l i, .running) := by
  cases f with
  | propel => exact absurd rfl hf
  | pause => exact absurd rfl hp
  | _ => rfl

theorem beginStepShift_pose (s : State) (l : Leg) (i : Nat) : (s.beginStepShift l i).pose = s.pose := by
  unfold beginStepShift
  split <;> rfl

@[simp] theorem beginStepShift_pls (s : State) (l : Leg) (i : Nat) : (s.beginStepShift l i).pls = s.pls := by
  unfold beginStepShift
  split <;> rfl

/-- R50, R51, R54: what a SHIFT of a stride step latches. -/
theorem beginStepShift_ssq (s : State) (l : Leg) (i : Nat) :
    (s.beginStepShift l i).ssq =
      { s.ssq with index := i, phase := .shift, stepping := some l, phaseTimer := some 0,
                   order := if i = 1 then s.zone.order.walked s.ssq.dir else s.ssq.order,
                   latched := s.latchStep.ssq.latched } := by
  unfold beginStepShift
  split <;> rfl

/-! ### A reseat procedure resumed -/

theorem zone_congr (h : t.ztb = s.ztb) : t.zone = s.zone := by simp [zone, h]

theorem loadedAt_congr (hl : t.llc = s.llc) (f : Int) (l : Leg) : t.loadedAt f l = s.loadedAt f l := by
  unfold loadedAt link
  rw [hl]

/-- R86: the check looks at the links, the flags and the surface class in force. -/
theorem reseatFailing_congr (hl : t.llc = s.llc) (hv : t.ssq.verified = s.ssq.verified) (hz : t.ztb = s.ztb) :
    t.reseatFailing = s.reseatFailing := by
  simp [reseatFailing, admitted, verifiedOf, loadedAt_congr hl, contactInForce, link, hl, hv, zone_congr hz]

theorem Origin.body_resumable (o : Origin) :
    BodyState.recover.mayBecome o.body = true ∧ o.body.standing = true ∧ o.body ≠ .recover := by
  cases o <;> decide

/-- R90: the record of a RESEAT context restored, with its origin and the body state of that. -/
def reseatAgain (s : State) (o : Origin) (count : Nat) (dir : Direction) (next : Option NextStep) : State :=
  { setBody { s with ssq.next := next, ssq.count := count, ssq.dir := dir } o.body .done with
    pls.reseat := true, pls.origin := o }

theorem resumeContext_reseat (s : State) (o : Origin) (n k : Nat) (d : Direction) (x : Option NextStep) (a : Nat)
    (f : Bool) :
    s.resumeContext (.reseat o n k d x a) f = ((s.reseatAgain o k d x).reseatCheck (n + 1), .running) := rfl

@[simp] theorem reseatAgain_ssq (s : State) (o : Origin) (k : Nat) (d : Direction) (x : Option NextStep) :
    (s.reseatAgain o k d x).ssq = { s.ssq with next := x, count := k, dir := d } := setBody_ssq ..
@[simp] theorem reseatAgain_ztb (s : State) (o : Origin) (k : Nat) (d : Direction) (x : Option NextStep) :
    (s.reseatAgain o k d x).ztb = s.ztb := setBody_ztb ..
@[simp] theorem reseatAgain_llc (s : State) (o : Origin) (k : Nat) (d : Direction) (x : Option NextStep) :
    (s.reseatAgain o k d x).llc = s.llc := setBody_llc ..
@[simp] theorem reseatAgain_pls (s : State) (o : Origin) (k : Nat) (d : Direction) (x : Option NextStep) :
    (s.reseatAgain o k d x).pls = { s.pls with reseat := true, origin := o } := by simp [reseatAgain]

theorem reseatAgain_pose {q noted : State} (hq : q.pose = s.endedPose .recover noted.hli) (o : Origin) (k : Nat)
    (d : Direction) (x : Option NextStep) :
    (q.reseatAgain o k d x).pose =
      s.endedPose o.body (noted.postNote (.body .recover o.body .done)).hli := by
  obtain ⟨h, hb, hne⟩ := Origin.body_resumable o
  exact setBody_endedPose .done (q := { q with ssq.next := x, ssq.count := k, ssq.dir := d }) hq h hb hne

/-- R86: a check that finds legs to reseat begins its pass with the first of them. -/
theorem reseatCheck_begins {l : Leg} {more : List Leg} (h : s.reseatFailing = l :: more) {n : Nat} (hn : n ≤ 4) :
    s.reseatCheck n =
      beginShift { s with pls.pass := n, pls.reseatSet := l :: more, pls.reseatLeg := some l } l := by
  unfold reseatCheck
  dsimp only
  split
  · rename_i e
    cases h.symm.trans e
  · rename_i e
    cases h.symm.trans e
    rw [if_neg (by omega), Nat.min_eq_right hn]

/-- R88: the check after the fourth pass fails where it finds one. -/
theorem reseatCheck_fails {l : Leg} {more : List Leg} (h : s.reseatFailing = l :: more) :
    s.reseatCheck 5 = reseatFail { s with pls.pass := 4 } := by
  unfold reseatCheck
  dsimp only
  split
  · rename_i e
    cases h.symm.trans e
  · rfl

end State
end Sys2Proof.Machine
end

section
/-! ## A WALK context resumed as HOLD -/

namespace Sys2Proof.Machine

namespace State

variable {s : State}

@[simp] theorem enterHold_ssq (s : State) (n : NextStep) (r : BodyReason) :
    (s.enterHold n r).ssq = { s.ssq with phase := .idle, stepping := none, phaseTimer := none, next := some n } :=
  setBody_ssq ..

@[simp] theorem enterHold_pls (s : State) (n : NextStep) (r : BodyReason) : (s.enterHold n r).pls = s.pls :=
  setBody_pls ..

@[simp] theorem walkOver_ssq (s : State) (r : BodyReason) :
    (s.walkOver r).ssq =
      { s.ssq with phase := .idle, stepping := none, phaseTimer := none, next := none, stopMark := false } :=
  setBody_ssq ..

@[simp] theorem walkOver_pls (s : State) (r : BodyReason) : (s.walkOver r).pls = s.pls := setBody_pls ..

/-- R53: from RECOVER. -/
theorem enterHold_pose (hb : s.pc.body = .recover) (n : NextStep) (r : BodyReason) :
    (s.enterHold n r).pose =
      { s.pose with pc.body := .hold, hli := (s.postNote (.body .recover .hold r)).hli } := by
  have e := setBody_pose (s := { s.idlePhase with ssq.next := some n }) (b := .hold) r
    (by simp [idlePhase, hb, BodyState.mayBecome]) rfl (by simp [idlePhase, hb])
  rw [postNote_hli_congr (s := { s.idlePhase with ssq.next := some n }) (t := s) _ rfl] at e
  rw [← hb]
  exact e

/-- R63, R66: from RECOVER. -/
theorem walkOver_pose (hb : s.pc.body = .recover) (r : BodyReason) :
    (s.walkOver r).pose =
      { s.pose with pc.body := .stand, hli := (s.postNote (.body .recover .stand r)).hli } := by
  have e := setBody_pose (s := { s.idlePhase with ssq.next := none, ssq.stopMark := false }) (b := .stand) r
    (by simp [idlePhase, hb, BodyState.mayBecome]) rfl (by simp [idlePhase, hb])
  rw [postNote_hli_congr (s := { s.idlePhase with ssq.next := none, ssq.stopMark := false }) (t := s) _ rfl] at e
  rw [← hb]
  exact e

/-- R62, R63: the fourth step ends the stride, with its note. -/
theorem endStep_of_four (h : s.ssq.index = 4) :
    s.endStep = ({ s with ssq.index := 1, ssq.count := s.ssq.count - 1 } : State).postNote
      (.stride (s.ssq.count - 1) s.ssq.odometer) := by
  unfold endStep
  rw [if_pos h]
  rfl

theorem endStep_of_ne (h : s.ssq.index ≠ 4) : s.endStep = { s with ssq.index := s.ssq.index + 1 } := by
  unfold endStep
  rw [if_neg h]

/-- What a WALK context resumed as HOLD, or STAND, leaves (R70): the pose, and the walking and placing. -/
structure Held (s : State) (l : Leg) (i : Nat) (f : Phase) (r : BodyReason) (t : State) : Prop where
  pose : t.pose = { s.pose with
    pc.body := (walkHeld s l i s.ssq.count f).1,
    hli := ((strideTold s i s.ssq.count f).postNote (.body .recover (walkHeld s l i s.ssq.count f).1 r)).hli }
  next : t.ssq.next = (walkHeld s l i s.ssq.count f).2.1
  count : t.ssq.count = (walkHeld s l i s.ssq.count f).2.2
  dir : t.ssq.dir = s.ssq.dir
  order : t.ssq.order = s.ssq.order
  phase : t.ssq.phase = .idle
  stepping : t.ssq.stepping = none
  phaseTimer : t.ssq.phaseTimer = none
  pls : t.pls = s.pls

/-- R70, R62, R63: after a PROPEL the step is over; the walk holds before the next one, or is over with the last. -/
theorem resumeAsHold_propel_held (hb : s.pc.body = .recover) (l : Leg) (i : Nat) (r : BodyReason) :
    Held s l i .propel r (s.resumeAsHold (some l) i .propel r) := by
  have holdAfter : s.resumeAsHold (some l) i .propel r = holdAfterStep { s with ssq.index := i } r r := rfl
  rw [holdAfter]
  unfold holdAfterStep
  by_cases hi : i = 4
  · have stepped := endStep_of_four (s := { s with ssq.index := i }) hi
    have line : (endStep { s with ssq.index := i }).hli = (strideTold s i s.ssq.count .propel).hli := by
      rw [stepped, strideTold, if_pos ⟨rfl, hi⟩]
      exact postNote_hli_congr _ rfl
    have pose : (endStep { s with ssq.index := i }).pose =
        { s.pose with hli := (strideTold s i s.ssq.count .propel).hli } := by
      rw [← line, stepped, postNote_pose]
      rfl
    have ssq : (endStep { s with ssq.index := i }).ssq = { s.ssq with index := 1, count := s.ssq.count - 1 } := by
      rw [stepped, postNote_ssq]
    have pls : (endStep { s with ssq.index := i }).pls = s.pls := by
      rw [stepped, postNote_pls]
    have body : (endStep { s with ssq.index := i }).pc.body = .recover := by
      rw [stepped, postNote_pc]
      exact hb
    clear stepped
    generalize endStep { s with ssq.index := i } = u at *
    by_cases hcount : s.ssq.count ≤ 1
    · have last : lastStep { s with ssq.index := i } = true := by simp [lastStep, hi, hcount]
      have held : walkHeld s l i s.ssq.count .propel = (.stand, none, 0) := by
        simp [walkHeld, hi, show ¬ 2 ≤ s.ssq.count by omega]
      rw [last, if_pos rfl]
      exact
        { pose := by rw [walkOver_pose body, pose, held, postNote_hli_congr _ line]
          next := by simp [held]
          count := by simp [held, ssq]; omega
          dir := by simp [ssq]
          order := by simp [ssq]
          phase := by simp
          stepping := by simp
          phaseTimer := by simp
          pls := by simp [pls] }
    · have last : lastStep { s with ssq.index := i } = false := by simp [lastStep, hi]; omega
      have held : walkHeld s l i s.ssq.count .propel = (.hold, some ⟨s.ssq.order.first, 1⟩, s.ssq.count - 1) := by
        simp [walkHeld, hi, show 2 ≤ s.ssq.count by omega]
      rw [last, if_neg (by decide)]
      exact
        { pose := by rw [enterHold_pose body, pose, held, postNote_hli_congr _ line]
          next := by simp [held, ssq]; rfl
          count := by simp [held, ssq]
          dir := by simp [ssq]
          order := by simp [ssq]
          phase := by simp
          stepping := by simp
          phaseTimer := by simp
          pls := by simp [pls] }
  · have last : lastStep { s with ssq.index := i } = false := by simp [lastStep, hi]
    have held : walkHeld s l i s.ssq.count .propel =
        (.hold, some ⟨s.ssq.order.nth (i + 1), i + 1⟩, s.ssq.count) := by simp [walkHeld, hi]
    rw [last, if_neg (by decide), endStep_of_ne (s := { s with ssq.index := i }) hi]
    exact
      { pose := by
          rw [enterHold_pose (s := { s with ssq.index := i + 1 }) hb, held, strideTold, if_neg (by simp [hi]),
            postNote_hli_congr (s := { s with ssq.index := i + 1 }) (t := s) _ rfl]
          rfl
        next := by simp [held]
        count := by simp [held]
        dir := by simp
        order := by simp
        phase := by simp
        stepping := by simp
        phaseTimer := by simp
        pls := by simp }

theorem resumeAsHold_held (hb : s.pc.body = .recover) {leg : Option Leg} {l : Leg} {f : Phase} (i : Nat)
    (r : BodyReason) (hl : leg = some l ∨ f = .pause) : Held s l i f r (s.resumeAsHold leg i f r) := by
  by_cases hpause : f = .pause
  · subst hpause
    exact
      { pose := by simpa [resumeAsHold, walkHeld, strideTold] using enterHold_pose hb _ r
        next := by simp [resumeAsHold, walkHeld]
        count := by simp [resumeAsHold, walkHeld]
        dir := by simp [resumeAsHold]
        order := by simp [resumeAsHold]
        phase := by simp [resumeAsHold]
        stepping := by simp [resumeAsHold]
        phaseTimer := by simp [resumeAsHold]
        pls := by simp [resumeAsHold] }
  · have hleg : leg = some l := hl.resolve_right hpause
    subst hleg
    by_cases hpropel : f = .propel
    · subst hpropel
      exact resumeAsHold_propel_held hb l i r
    · have held : s.resumeAsHold (some l) i f r = s.enterHold ⟨l, i⟩ r := by
        cases f with
        | pause => exact absurd rfl hpause
        | propel => exact absurd rfl hpropel
        | _ => rfl
      rw [held]
      exact
        { pose := by simpa [walkHeld, strideTold, hpause, hpropel] using enterHold_pose hb _ r
          next := by simp [walkHeld, hpause, hpropel]
          count := by simp [walkHeld, hpause, hpropel]
          dir := by simp
          order := by simp
          phase := by simp
          stepping := by simp
          phaseTimer := by simp
          pls := by simp }

end State
end Sys2Proof.Machine
end

section
/-! ## O55: a BRACE that completes (R149, R151) -/

namespace Sys2Proof.Machine

namespace State

variable {s : State} {r : Running}

theorem exec_braceTimeout (hr : s.rxu.running = some r) (hw : r.stage = .wait) (hp : s.pc.protect = false) :
    exec .braceTimeout s = .next (s.settle .completed) := by
  have arm : exec .braceTimeout s = execBraceTimeout s := rfl
  simp [arm, execBraceTimeout, stageDone, hr, hw, hp]

/-- What a BRACE that completes has on the line before what its context adds. -/
def braceNoted (s : State) (r : Running) : State := s.postNote (.reflex .done r.trigger r.leg (some r.kind) 0)

/-- What every clause on a BRACE over one context supposes. -/
structure Braced (s : State) (r : Running) (c : Context) : Prop where
  running : s.rxu.running = some r
  wait : r.stage = .wait
  clear : s.pc.protect = false
  body : s.pc.body = .recover
  pending : s.rxu.pending = []
  steady : s.tipHolds = false
  stack : s.rxu.stack = [c]

/-- R151: a BRACE that completes over one context. -/
theorem Braced.completes {c : Context} {b : BodyState} {line : HostLink} {u : State} (h : Braced s r c)
    (hb : b ≠ .recover) (he : (s.popped r [] false).resumeContext c false = (u, .running))
    (hu : u.pose = s.endedPose b line) :
    ∃ t, exec .braceTimeout s = .next t ∧ t.pose = s.endedPose b line ∧ t.ssq = u.ssq ∧ t.pls = u.pls := by
  obtain ⟨t, settled, pose⟩ :=
    settle_over_one_context (v := .completed) h.running h.stack h.pending h.steady (by decide) hb he hu
  exact ⟨t, by rw [exec_braceTimeout h.running h.wait h.clear, settled], pose⟩

theorem Braced.popped_pose {c : Context} (h : Braced s r c) :
    (s.popped r [] false).pose = s.endedPose .recover (s.braceNoted r).hli := popped_endedPose h.body rfl

theorem braceTimeout_over_stand (h : Braced s r .stand) :
    ∃ t, exec .braceTimeout s = .next t ∧ ended s (s.braceNoted r) t .stand .done ∧ t.ssq.phase = .idle := by
  obtain ⟨t, next, pose, ssq, -⟩ := h.completes (u := (s.popped r [] false).setBody .stand .done) (by decide) rfl
    (setBody_endedPose .done h.popped_pose rfl rfl (by decide))
  refine ⟨t, next, ended_of_pose h.pending pose, ?_⟩
  rw [ssq, setBody_ssq, popped_ssq]

theorem braceTimeout_over_propel {leg : Option Leg} {i k : Nat} {d : Direction} {a : Nat}
    (h : Braced s r (.walk leg i .propel k d a)) :
    ∃ t, exec .braceTimeout s = .next t ∧ ended s (s.braceNoted r) t .walk .done ∧
      t.pls = { s.pls with reseatSet := [], reseatLeg := none } ∧
      t.ssq = { s.ssq with phase := .propel, stepping := leg, index := i, phaseTimer := some 0, count := k, dir := d } := by
  obtain ⟨t, next, pose, ssq, pls⟩ := h.completes (by decide) (resumeContext_propel ..)
    (walkAgain_pose h.popped_pose k d)
  refine ⟨t, next, ended_of_pose h.pending pose, ?_, ?_⟩
  · rw [pls]
    simp
  · rw [ssq]
    simp

theorem braceTimeout_over_pause {leg : Option Leg} {i k : Nat} {d : Direction} {a : Nat}
    (h : Braced s r (.walk leg i .pause k d a)) :
    ∃ t, exec .braceTimeout s = .next t ∧ ended s (s.braceNoted r) t .walk .done ∧
      t.pls = { s.pls with reseatSet := [], reseatLeg := none } ∧
      t.ssq = { s.ssq with phase := .pause, stepping := none, phaseTimer := some 0, count := k, dir := d } := by
  obtain ⟨t, next, pose, ssq, pls⟩ := h.completes (by decide) (resumeContext_pause ..)
    (walkAgain_pose h.popped_pose k d)
  refine ⟨t, next, ended_of_pose h.pending pose, ?_, ?_⟩
  · rw [pls]
    simp [beginPause]
  · rw [ssq]
    simp [beginPause]

/-- R70: the steps before PROPEL are resumed as a fresh SHIFT. -/
theorem braceTimeout_over_step {l : Leg} {i k : Nat} {d : Direction} {a : Nat} {f : Phase} (hf : f ≠ .propel)
    (hp : f ≠ .pause) (h : Braced s r (.walk (some l) i f k d a)) :
    ∃ t, exec .braceTimeout s = .next t ∧ ended s (s.braceNoted r) t .walk .done ∧
      t.pls = { s.pls with reseatSet := [], reseatLeg := none } ∧ t.ssq.count = k ∧ t.ssq.dir = d ∧
      t.ssq.phase = .shift ∧ t.ssq.stepping = some l ∧ t.ssq.index = i ∧ t.ssq.phaseTimer = some 0 ∧
      t.ssq.latched.stride = s.zone.stride ∧ t.ssq.latched.threshold = s.zone.threshold ∧
      t.ssq.latched.derate = s.tdu.body ∧ t.ssq.order = if i = 1 then s.zone.order.walked d else s.ssq.order := by
  obtain ⟨t, next, pose, ssq, pls⟩ := h.completes (by decide) (resumeContext_shift _ hf hp ..)
    ((beginStepShift_pose ..).trans (walkAgain_pose h.popped_pose k d))
  have zone : ((s.popped r [] false).walkAgain k d).zone = s.zone := zone_congr (by simp)
  refine ⟨t, next, ended_of_pose h.pending pose, by rw [pls]; simp, ?_⟩
  rw [ssq, beginStepShift_ssq]
  simp [latchStep, zone]

theorem braceTimeout_over_walk {l : Leg} {i k : Nat} {d : Direction} {a : Nat} {f : Phase}
    (h : Braced s r (.walk (some l) i f k d a)) :
    ∃ t, exec .braceTimeout s = .next t ∧ ended s (s.braceNoted r) t .walk .done ∧ t.ssq.count = k ∧
      t.ssq.dir = d ∧ t.pls = { s.pls with reseatSet := [], reseatLeg := none } ∧
      (f = .shift ∨ f = .swing ∨ f = .place → t.ssq.phase = .shift ∧ t.ssq.stepping = some l ∧
        t.ssq.index = i ∧ t.ssq.phaseTimer = some 0 ∧ t.ssq.latched.stride = s.zone.stride ∧
        t.ssq.latched.threshold = s.zone.threshold ∧ t.ssq.latched.derate = s.tdu.body ∧
        (i ≠ 1 → t.ssq.order = s.ssq.order) ∧ (i = 1 → t.ssq.order = s.zone.order.walked d)) ∧
      (f = .propel → t.ssq.phase = .propel ∧ t.ssq.stepping = some l ∧ t.ssq.index = i ∧
        t.ssq.phaseTimer = some 0 ∧ t.ssq.quarter = s.ssq.quarter ∧ t.ssq.latched = s.ssq.latched) := by
  by_cases hpropel : f = .propel
  · subst hpropel
    obtain ⟨t, next, hended, pls, ssq⟩ := braceTimeout_over_propel h
    exact ⟨t, next, hended, by simp [ssq], by simp [ssq], pls, by simp, by simp [ssq]⟩
  by_cases hpause : f = .pause
  · subst hpause
    obtain ⟨t, next, hended, pls, ssq⟩ := braceTimeout_over_pause h
    exact ⟨t, next, hended, by simp [ssq], by simp [ssq], pls, by simp, by simp⟩
  obtain ⟨t, next, hended, pls, count, dir, phase, stepping, index, timer, stride, threshold, derate, order⟩ :=
    braceTimeout_over_step hpropel hpause h
  exact ⟨t, next, hended, count, dir, pls,
    fun _ => ⟨phase, stepping, index, timer, stride, threshold, derate, fun hi => order.trans (if_neg hi),
      fun hi => order.trans (if_pos hi)⟩,
    fun e => absurd e hpropel⟩

/-! ### Over a reseat procedure -/

/-- The legs the next pass finds are those that the state before the resumption shows. -/
theorem reseatAgain_failing (s : State) (r : Running) (o : Origin) (k : Nat) (d : Direction) (x : Option NextStep) :
    ((s.popped r [] false).reseatAgain o k d x).reseatFailing = s.reseatFailing :=
  reseatFailing_congr (by simp) (by simp) (by simp)

theorem braceTimeout_over_reseat {o : Origin} {p k : Nat} {d : Direction} {x : Option NextStep} {a : Nat}
    {first : Leg} {rest : List Leg} (h : Braced s r (.reseat o p k d x a)) (hf : s.reseatFailing = first :: rest)
    (hp : p < 4) :
    ∃ t, exec .braceTimeout s = .next t ∧ ended s (s.braceNoted r) t o.body .done ∧
      t.pls.reseat = true ∧ t.pls.origin = o ∧ t.pls.pass = p + 1 ∧ t.pls.reseatSet = first :: rest ∧
      t.pls.reseatLeg = some first ∧ t.ssq.phase = .shift ∧ t.ssq.stepping = some first ∧
      t.ssq.phaseTimer = some 0 ∧ t.ssq.count = k ∧ t.ssq.dir = d ∧ t.ssq.next = x := by
  have check := reseatCheck_begins ((reseatAgain_failing s r o k d x).trans hf) (n := p + 1) hp
  have resumption := resumeContext_reseat (s.popped r [] false) o p k d x a false
  rw [check] at resumption
  obtain ⟨t, next, pose, ssq, pls⟩ := h.completes (Origin.body_resumable o).2.2 resumption
    (reseatAgain_pose h.popped_pose o k d x)
  refine ⟨t, next, ended_of_pose h.pending pose, ?_⟩
  rw [ssq, pls]
  simp [beginShift, latchStep]

/-- R89: the procedure over. -/
def unreseated (s : State) : State :=
  { s.idlePhase with pls.reseat := false, pls.reseatSet := [], pls.reseatLeg := none }

/-- R89: the same, with the note. -/
def reseatGivenUp (s : State) : State := s.unreseated.postNote (.fault .reseatFail none none)

theorem reseatFail_of_stand (h : s.pls.origin = .stand) :
    s.reseatFail = setBody { s.reseatGivenUp with ssq.count := 0, ssq.next := none } .hold .fault := by
  have origin : s.reseatGivenUp.pls.origin = .stand := by simpa [reseatGivenUp, unreseated, idlePhase] using h
  unfold reseatFail
  dsimp only
  split
  · rfl
  · rename_i ne
    exact absurd origin ne

theorem reseatFail_of_ne (h : s.pls.origin ≠ .stand) : s.reseatFail = s.reseatGivenUp := by
  have origin : s.reseatGivenUp.pls.origin ≠ .stand := by simpa [reseatGivenUp, unreseated, idlePhase] using h
  unfold reseatFail
  dsimp only
  split
  · rename_i e
    exact absurd e origin
  · rfl

@[simp] theorem reseatGivenUp_pls (s : State) :
    s.reseatGivenUp.pls = { s.pls with reseat := false, reseatSet := [], reseatLeg := none } := postNote_pls _ _

@[simp] theorem reseatGivenUp_ssq (s : State) :
    s.reseatGivenUp.ssq = { s.ssq with phase := .idle, stepping := none, phaseTimer := none } := postNote_ssq _ _

theorem reseatGivenUp_pose {q noted : State} {b : BodyState} (hq : q.pose = s.endedPose b noted.hli) :
    q.reseatGivenUp.pose = s.endedPose b (noted.postNote (.fault .reseatFail none none)).hli := by
  have line : q.hli = noted.hli := (congrArg State.hli hq :)
  unfold reseatGivenUp
  rw [postNote_pose, postNote_hli_congr (s := q.unreseated) (t := noted) _ line]
  exact congrArg (fun p : State => { p with hli := (noted.postNote (.fault .reseatFail none none)).hli }) hq

/-- What a procedure that a BRACE's end takes past its fourth pass leaves (R88, R89). -/
structure ReseatOver (s t : State) (d : Direction) : Prop where
  reseat : t.pls.reseat = false
  reseatSet : t.pls.reseatSet = []
  reseatLeg : t.pls.reseatLeg = none
  pass : t.pls.pass = 4
  phase : t.ssq.phase = .idle
  stepping : t.ssq.stepping = none
  dir : t.ssq.dir = d

/-- R88, R89: the check after the fourth pass fails the procedure. -/
theorem braceTimeout_after_fourth_pass {o : Origin} {k : Nat} {d : Direction} {x : Option NextStep} {a : Nat}
    {first : Leg} {rest : List Leg} (h : Braced s r (.reseat o 4 k d x a)) (hf : s.reseatFailing = first :: rest) :
    let failed := ((s.braceNoted r).postNote (.body .recover o.body .done)).postNote (.fault .reseatFail none none)
    (o = .stand → ∃ t, exec .braceTimeout s = .next t ∧ ReseatOver s t d ∧
      t.pose = s.endedPose .hold (failed.postNote (.body .stand .hold .fault)).hli ∧ t.ssq.count = 0 ∧
      t.ssq.next = none) ∧
    (o ≠ .stand → ∃ t, exec .braceTimeout s = .next t ∧ ReseatOver s t d ∧
      t.pose = s.endedPose o.body failed.hli ∧ t.ssq.count = k ∧ t.ssq.next = x) := by
  intro failed
  have check := reseatCheck_fails ((reseatAgain_failing s r o k d x).trans hf)
  have resumption := resumeContext_reseat (s.popped r [] false) o 4 k d x a false
  rw [check] at resumption
  have again := reseatAgain_pose h.popped_pose o k d x
  have givenUp := reseatGivenUp_pose (q := { (s.popped r [] false).reseatAgain o k d x with pls.pass := 4 }) again
  constructor
  · intro ho
    subst ho
    rw [reseatFail_of_stand (by simp)] at resumption
    obtain ⟨t, next, pose, ssq, pls⟩ := h.completes (by decide) resumption
      (setBody_endedPose (noted := failed) .fault givenUp rfl rfl (by decide))
    refine ⟨t, next, ?_, pose, by rw [ssq]; simp, by rw [ssq]; simp⟩
    constructor <;> simp [ssq, pls]
  · intro ho
    rw [reseatFail_of_ne (by simpa using ho)] at resumption
    obtain ⟨t, next, pose, ssq, pls⟩ := h.completes (Origin.body_resumable o).2.2 resumption givenUp
    refine ⟨t, next, ?_, pose, by rw [ssq]; simp, by rw [ssq]; simp⟩
    constructor <;> simp [ssq, pls]

end State
end Sys2Proof.Machine
end

section
/-! ## O55: a leg reseat that stalls (R152) -/

namespace Sys2Proof.Machine

namespace State

variable {s : State} {r : Running} {l : Leg}

/-- R57: the SHIFT over, with the STALL note. -/
def stalled (s : State) (l : Leg) : State := (s.postNote (.fault .stall (some l) none)).idlePhase

theorem exec_shiftStall (hr : s.rxu.running = some r) (hw : r.stage = .reseat) (hf : s.ssq.phase = .shift)
    (hl : s.ssq.stepping = some l) (hp : s.pc.protect = false) :
    exec .shiftStall s = .next ((s.stalled l).settle .failed) := by
  have arm : exec .shiftStall s = execShiftStall s := rfl
  simp [arm, execShiftStall, shiftFailed, owner, stageLegDone, stageFailed, stalled, postFault, hr, hw, hf, hl, hp]

@[simp] theorem stalled_rxu (s : State) (l : Leg) : (s.stalled l).rxu = s.rxu := postNote_rxu _ _

@[simp] theorem stalled_pls (s : State) (l : Leg) : (s.stalled l).pls = s.pls := postNote_pls _ _

@[simp] theorem stalled_pc (s : State) (l : Leg) : (s.stalled l).pc = s.pc := postNote_pc _ _

theorem stalled_ssq (s : State) (l : Leg) :
    (s.stalled l).ssq = { s.ssq with phase := .idle, stepping := none, phaseTimer := none } := by
  simp [stalled, idlePhase]

theorem stalled_pose (s : State) (l : Leg) :
    (s.stalled l).pose = { s.pose with hli := (s.postNote (.fault .stall (some l) none)).hli } :=
  postNote_pose _ _

theorem stalled_endedPose (s : State) (l : Leg) (b : BodyState) (line : HostLink) :
    (s.stalled l).endedPose b line = s.endedPose b line := by
  unfold endedPose
  rw [stalled_pose, stalled_rxu]

/-- What a stalled leg reseat has on the line before what its context adds. -/
def stallNoted (s : State) (r : Running) (l : Leg) : State :=
  (s.postNote (.fault .stall (some l) none)).postNote (.reflex .failed r.trigger r.leg (some r.kind) 0)

/-- What every clause on a stalled leg reseat over one context supposes. -/
structure Stalls (s : State) (r : Running) (l : Leg) (c : Context) : Prop where
  running : s.rxu.running = some r
  reseat : r.stage = .reseat
  shift : s.ssq.phase = .shift
  stepping : s.ssq.stepping = some l
  clear : s.pc.protect = false
  body : s.pc.body = .recover
  pending : s.rxu.pending = []
  steady : s.tipHolds = false
  stack : s.rxu.stack = [c]

/-- R152: a stalled leg reseat of a reflex over one context. -/
theorem Stalls.fails {c : Context} {b : BodyState} {line : HostLink} {u : State} (h : Stalls s r l c)
    (hb : b ≠ .recover) (he : ((s.stalled l).popped r [] true).resumeContext c true = (u, .running))
    (hu : u.pose = s.endedPose b line) :
    ∃ t, exec .shiftStall s = .next t ∧ t.pose = s.endedPose b line ∧ t.ssq = u.ssq ∧ t.pls = u.pls := by
  have steady : (s.stalled l).tipHolds = false :=
    (congrArg tipHolds (stalled_pose s l)).trans h.steady
  obtain ⟨t, settled, pose, rest⟩ :=
    settle_over_one_context (s := s.stalled l) (v := .failed) (b := b) (line := line)
      (by simpa using h.running) (by simpa using h.stack) (by simpa using h.pending) steady (by decide) hb he
      (by rw [stalled_endedPose, hu])
  exact ⟨t, by rw [exec_shiftStall h.running h.reseat h.shift h.stepping h.clear, settled],
    by rw [pose, stalled_endedPose], rest⟩

theorem Stalls.popped_pose {c : Context} (h : Stalls s r l c) :
    ((s.stalled l).popped r [] true).pose = s.endedPose .recover (s.stallNoted r l).hli := by
  have noted : (s.stallNoted r l).hli =
      ((s.stalled l).postNote (.reflex .failed r.trigger r.leg (some r.kind) 0)).hli := postNote_hli_congr _ rfl
  rw [popped_endedPose (f := true) (by simpa using h.body) noted, stalled_endedPose]

/-- R152: a context of a body that stands still is resumed with the body state it names. -/
theorem shiftStall_over_rest {c : Context} {b : BodyState} (h : Stalls s r l c)
    (hc : (c = .stand ∧ b = .stand) ∨ (c = .unsettled ∧ b = .unsettled) ∨ ∃ n k d, c = .hold n k d ∧ b = .hold) :
    ∃ t, exec .shiftStall s = .next t ∧ ended s (s.stallNoted r l) t b .done ∧ t.ssq.phase = .idle ∧
      t.ssq.stepping = none ∧ t.pls = { s.pls with reseatSet := [], reseatLeg := none } ∧
      (∀ n k d, c = .hold n k d → t.ssq.next = n ∧ t.ssq.count = k ∧ t.ssq.dir = d) := by
  rcases hc with ⟨rfl, rfl⟩ | ⟨rfl, rfl⟩ | ⟨n, k, d, rfl, rfl⟩
  · obtain ⟨t, next, pose, ssq, pls⟩ := h.fails (u := ((s.stalled l).popped r [] true).setBody .stand .done)
      (by decide) rfl (setBody_endedPose .done h.popped_pose rfl rfl (by decide))
    exact ⟨t, next, ended_of_pose h.pending pose, by rw [ssq]; simp, by rw [ssq]; simp, by rw [pls]; simp,
      fun _ _ _ e => nomatch e⟩
  · obtain ⟨t, next, pose, ssq, pls⟩ := h.fails (u := ((s.stalled l).popped r [] true).setBody .unsettled .done)
      (by decide) rfl (setBody_endedPose .done h.popped_pose rfl rfl (by decide))
    exact ⟨t, next, ended_of_pose h.pending pose, by rw [ssq]; simp, by rw [ssq]; simp, by rw [pls]; simp,
      fun _ _ _ e => nomatch e⟩
  · obtain ⟨t, next, pose, ssq, pls⟩ := h.fails (by decide) rfl
      (setBody_endedPose (q := { (s.stalled l).popped r [] true with ssq.next := n, ssq.count := k, ssq.dir := d })
        (b := .hold) .done h.popped_pose rfl rfl (by decide))
    refine ⟨t, next, ended_of_pose h.pending pose, by rw [ssq]; simp, by rw [ssq]; simp, by rw [pls]; simp, ?_⟩
    intro n' k' d' e
    cases e
    rw [ssq]
    simp

/-- R152: the popped state with the count and direction of its WALK context, which HOLD takes up. -/
def stalledWalk (s : State) (r : Running) (l : Leg) (n : Nat) (d : Direction) : State :=
  { (s.stalled l).popped r [] true with ssq.count := n, ssq.dir := d }

theorem stalledWalk_ssq (s : State) (r : Running) (l : Leg) (n : Nat) (d : Direction) :
    (s.stalledWalk r l n d).ssq =
      { s.ssq with phase := .idle, stepping := none, phaseTimer := none, count := n, dir := d } := by
  simp [stalledWalk, stalled_ssq]

theorem stalledWalk_pls (s : State) (r : Running) (l : Leg) (n : Nat) (d : Direction) :
    (s.stalledWalk r l n d).pls = { s.pls with reseatSet := [], reseatLeg := none } := by
  simp [stalledWalk]

theorem resumeContext_stalled_walk (s : State) (r : Running) (l : Leg) (leg : Option Leg) (i n : Nat) (f : Phase)
    (d : Direction) (a : Nat) :
    ((s.stalled l).popped r [] true).resumeContext (.walk leg i f n d a) true =
      ((s.stalledWalk r l n d).resumeAsHold leg i f .fault, .running) := rfl

theorem walkHeld_standing (s : State) (k : Leg) (i n : Nat) (f : Phase) : (walkHeld s k i n f).1 ≠ .recover := by
  unfold walkHeld
  split_ifs <;> exact fun e => nomatch e

theorem strideTold_hli_congr {t : State} (ho : t.ssq.odometer = s.ssq.odometer) (hl : t.hli = s.hli) (i n : Nat)
    (f : Phase) : (strideTold t i n f).hli = (strideTold s i n f).hli := by
  unfold strideTold
  rw [ho]
  split
  · exact postNote_hli_congr _ hl
  · exact hl

/-- R152, R70: a walk is resumed as HOLD, or STAND. -/
theorem shiftStall_over_walk {leg : Option Leg} {k : Leg} {i n : Nat} {f : Phase} {d : Direction} {a : Nat}
    (h : Stalls s r l (.walk leg i f n d a)) (hl : leg = some k ∨ f = .pause) :
    ∃ t, exec .shiftStall s = .next t ∧
      ended s (strideTold (s.stallNoted r l) i n f) t (walkHeld s k i n f).1 .fault ∧
      t.ssq.next = (walkHeld s k i n f).2.1 ∧ t.ssq.count = (walkHeld s k i n f).2.2 ∧ t.ssq.dir = d ∧
      t.ssq.order = s.ssq.order ∧ t.ssq.phase = .idle ∧ t.ssq.stepping = none ∧
      t.pls = { s.pls with reseatSet := [], reseatLeg := none } := by
  have resumption := resumeContext_stalled_walk s r l leg i n f d a
  have qpose : (s.stalledWalk r l n d).pose = s.endedPose .recover (s.stallNoted r l).hli := h.popped_pose
  have qssq := stalledWalk_ssq s r l n d
  have qpls := stalledWalk_pls s r l n d
  generalize s.stalledWalk r l n d = q at *
  have held := resumeAsHold_held (s := q) (congrArg (fun s => s.pc.body) qpose) i .fault hl
  have same : walkHeld q k i q.ssq.count f = walkHeld s k i n f := by simp [walkHeld, qssq]
  have told : (strideTold q i q.ssq.count f).hli = (strideTold (s.stallNoted r l) i n f).hli := by
    have odometer : q.ssq.odometer = (s.stallNoted r l).ssq.odometer := by simp [qssq, stallNoted]
    have count : q.ssq.count = n := by rw [qssq]
    rw [count]
    exact strideTold_hli_congr odometer (congrArg State.hli qpose :) i n f
  obtain ⟨t, next, pose, ssq, pls⟩ := h.fails (walkHeld_standing s k i n f) resumption (line :=
    ((strideTold (s.stallNoted r l) i n f).postNote (.body .recover (walkHeld s k i n f).1 .fault)).hli) (by
      rw [held.pose, same, postNote_hli_congr _ told, qpose]
      rfl)
  refine ⟨t, next, ended_of_pose h.pending pose, ?_⟩
  rw [ssq, pls, held.next, held.count, held.dir, held.order, held.phase, held.stepping, held.pls, same, qpls]
  simp [qssq]

end State
end Sys2Proof.Machine
end

section
/-! ## O55: a CROUCH that times out (R156, R17, R18) -/

namespace Sys2Proof.Machine

/-- The Reflex Unit's state but for the pending list and the count of dropped causes. -/
def Reflexes.uncounted (x : Reflexes) : Reflexes := { x.unlisted with dropped := 0 }

/-- R18: a leg that stands, swings or is being placed. -/
def LegMode.loose (m : LegMode) : Bool := m == .stance || m == .swing || m == .placing

theorem LegMode.loose_iff {m : LegMode} : m.loose = true ↔ m = .stance ∨ m = .swing ∨ m = .placing := by
  cases m <;> decide

/-- R18: the command a leg has once it is held. -/
def LegCmd.held (c : LegCmd) : LegCmd :=
  if c.mode.loose then { mode := .hold, target := clampPoint c.target, clearance := c.clearance } else c

theorem LegCmd.held_of_loose {c : LegCmd} (h : c.mode.loose = true) :
    c.held = { mode := .hold, target := clampPoint c.target, clearance := c.clearance } := if_pos h

theorem LegCmd.held_of_not_loose {c : LegCmd} (h : c.mode.loose = false) : c.held = c := by simp [held, h]

namespace State

variable {s : State}

theorem holdLeg_of_loose {l : Leg} (h : (s.modeOf l).loose = true) :
    s.holdLeg l = (s.setMode l .hold).stanceUpdateWith (tipTestWith heldTip) := by
  unfold holdLeg
  rcases LegMode.loose_iff.mp h with e | e | e <;> rw [e]

theorem holdLeg_of_not_loose {l : Leg} (h : (s.modeOf l).loose = false) : s.holdLeg l = s := by
  unfold holdLeg
  generalize s.modeOf l = m at h
  cases m with
  | stance => cases h
  | swing => cases h
  | placing => cases h
  | _ => rfl

/-- R154, R18: what the stance update of a held leg keeps. -/
theorem stanceUpdate_of_held_keeps {β : Type} (π : State → β) (hre : ∀ s : State, π s.restanced = π s)
    (hmark : ∀ (s : State) (c r : Bool), π { s with scu.tipCondition := c, scu.tipRaised := r } = π s)
    (hheld : ∀ s : State, π s.heldTip = π s) (s : State) :
    π (s.stanceUpdateWith (tipTestWith heldTip)) = π s := by
  have test : ∀ s : State, π (s.tipTestWith heldTip) = π s := by
    intro s
    rcases tipTestWith_cases heldTip s with ⟨-, e⟩ | ⟨-, -, e⟩ | ⟨-, -, -, e⟩ | ⟨-, -, -, e⟩ <;> rw [e]
    · exact hmark s s.scu.tipCondition false
    · exact hmark s false false
    · exact hmark s true s.scu.tipRaised
    · exact (hheld _).trans (hmark s true true)
  rcases stanceUpdateWith_cases (tipTestWith heldTip) s with ⟨-, e⟩ | ⟨-, e⟩ <;> rw [e]
  rw [test, hre]

/-- R18: what one leg's hold keeps. -/
theorem holdLeg_keeps {β : Type} (π : State → β) (hcmd : ∀ (s : State) (l : Leg), π (s.setMode l .hold) = π s)
    (hre : ∀ s : State, π s.restanced = π s)
    (hmark : ∀ (s : State) (c r : Bool), π { s with scu.tipCondition := c, scu.tipRaised := r } = π s)
    (hheld : ∀ s : State, π s.heldTip = π s) (s : State) (l : Leg) : π (s.holdLeg l) = π s := by
  cases h : (s.modeOf l).loose with
  | false => rw [holdLeg_of_not_loose h]
  | true => rw [holdLeg_of_loose h, stanceUpdate_of_held_keeps π hre hmark hheld, hcmd]

theorem heldTip_uncounted (s : State) : s.heldTip.rxu.uncounted = s.rxu.uncounted := by simp [heldTip]; rfl

theorem holdLeg_pc (s : State) (l : Leg) : (s.holdLeg l).pc = s.pc :=
  holdLeg_keeps State.pc (by simp) (by simp) (fun _ _ _ => rfl) (by simp) s l
theorem holdLeg_atp (s : State) (l : Leg) : (s.holdLeg l).atp = s.atp :=
  holdLeg_keeps State.atp (by simp) (by simp) (fun _ _ _ => rfl) (by simp [heldTip]) s l
theorem holdLeg_pls (s : State) (l : Leg) : (s.holdLeg l).pls = s.pls :=
  holdLeg_keeps State.pls (by simp) (by simp) (fun _ _ _ => rfl) (by simp [heldTip]) s l
theorem holdLeg_fhq (s : State) (l : Leg) : (s.holdLeg l).fhq = s.fhq :=
  holdLeg_keeps State.fhq (by simp) (by simp) (fun _ _ _ => rfl) (by simp [heldTip]) s l
theorem holdLeg_ztb (s : State) (l : Leg) : (s.holdLeg l).ztb = s.ztb :=
  holdLeg_keeps State.ztb (by simp) (by simp) (fun _ _ _ => rfl) (by simp [heldTip]) s l
theorem holdLeg_tdu (s : State) (l : Leg) : (s.holdLeg l).tdu = s.tdu :=
  holdLeg_keeps State.tdu (by simp) (by simp) (fun _ _ _ => rfl) (by simp [heldTip]) s l

theorem holdLeg_uncounted (s : State) (l : Leg) : (s.holdLeg l).rxu.uncounted = s.rxu.uncounted :=
  holdLeg_keeps (fun s => s.rxu.uncounted)
    (fun s l => by simp only [setMode, setCmd_rxu (show LegMode.hold ≠ .limp by decide)])
    (fun s => by simp only [Reflexes.uncounted, restanced_unlisted]) (fun _ _ _ => rfl) heldTip_uncounted s l

theorem stanceUpdate_of_held_cmdOf (s : State) (k : Leg) :
    (s.stanceUpdateWith (tipTestWith heldTip)).cmdOf k = s.cmdOf k :=
  stanceUpdate_of_held_keeps (fun s => s.cmdOf k) (by simp [cmdOf]) (fun _ _ _ => rfl) (by simp [heldTip, cmdOf]) s

theorem holdLeg_cmdOf_self (s : State) (l : Leg) : (s.holdLeg l).cmdOf l = (s.cmdOf l).held := by
  cases h : (s.modeOf l).loose with
  | false =>
    rw [holdLeg_of_not_loose h]
    exact (LegCmd.held_of_not_loose h).symm
  | true =>
    rw [holdLeg_of_loose h, stanceUpdate_of_held_cmdOf, setMode, setCmd_cmdOf_self]
    exact (LegCmd.held_of_loose h).symm

theorem holdLeg_cmdOf_of_ne (s : State) {k l : Leg} (hne : k ≠ l) : (s.holdLeg l).cmdOf k = s.cmdOf k := by
  cases h : (s.modeOf l).loose with
  | false => rw [holdLeg_of_not_loose h]
  | true => rw [holdLeg_of_loose h, stanceUpdate_of_held_cmdOf, setMode, setCmd_cmdOf_of_ne _ _ _ _ hne]

/-- R17, R18: what the latch's setting leaves. -/
structure Latched (s t : State) : Prop where
  pc : t.pc = { s.pc with protect := true }
  atp : t.atp = s.atp
  pls : t.pls = s.pls
  fhq : t.fhq = s.fhq
  ztb : t.ztb = s.ztb
  tdu : t.tdu = s.tdu
  rxu : t.rxu.uncounted = s.rxu.uncounted
  cmd : ∀ l, t.cmdOf l = (s.cmdOf l).held

theorem setProtect_latched (h : s.pc.protect = false) : Latched s s.setProtect := by
  have folded : s.setProtect =
      Leg.all.foldl holdLeg (postNote { s with pc.protect := true } (.fault .protect none none)) := by
    simp [setProtect, h, postFault]
  rw [folded]
  exact
    { pc := (foldl_keeps State.pc holdLeg_pc _ _).trans (postNote_pc _ _)
      atp := (foldl_keeps State.atp holdLeg_atp _ _).trans (postNote_atp _ _)
      pls := (foldl_keeps State.pls holdLeg_pls _ _).trans (postNote_pls _ _)
      fhq := (foldl_keeps State.fhq holdLeg_fhq _ _).trans (postNote_fhq _ _)
      ztb := (foldl_keeps State.ztb holdLeg_ztb _ _).trans (postNote_ztb _ _)
      tdu := (foldl_keeps State.tdu holdLeg_tdu _ _).trans (postNote_tdu _ _)
      rxu := (foldl_keeps (fun s => s.rxu.uncounted) holdLeg_uncounted _ _).trans
        (congrArg Reflexes.uncounted (postNote_rxu _ _))
      cmd := fun l =>
        (foldl_all_reads cmdOf (fun s l => (s.cmdOf l).held) holdLeg_cmdOf_self
          (fun s _ _ hne => holdLeg_cmdOf_of_ne s hne)
          (fun s _ _ hne => congrArg LegCmd.held (holdLeg_cmdOf_of_ne s hne)) l).trans
          (congrArg (fun x : Strider => (x.cmd.get l).held) (postNote_ssq _ _)) }

/-! ### The timer of the CROUCH -/

/-- R194: a note posted adds to the line what it adds to the same line elsewhere. -/
theorem postNote_eq_of_hli {t : State} (n : Note) (h : t.hli = s.hli) :
    t.postNote n = { t with hli := (s.postNote n).hli } := by
  rw [postNote_eq, postNote_hli_congr n h]

/-- R156: the CROUCH over, with its TIMEOUT note. -/
theorem crouched_timeout_eq (s : State) :
    s.crouched .timeout =
      { s with rxu.crouch := .crouched, rxu.stageTimer := none,
               hli := (s.postNote (.reflex .timeout .tip none (some .crouch) s.rxu.stack.length)).hli } :=
  postNote_eq_of_hli (t := { s with rxu.crouch := .crouched, rxu.stageTimer := none }) _ rfl

/-- The crouching legs that carry load (R17). -/
def crouchLoaded (s : State) : List Leg :=
  Leg.all.filter fun l => s.rxu.crouching.get l && s.loadedAt s.zone.surface.contact l

theorem exec_crouchTimeout (hc : s.rxu.crouch = .running) (hp : s.pc.protect = false) :
    exec .crouchTimeout s =
      .next (if s.crouchLoaded.length < 3 then (s.crouched .timeout).setProtect else s.crouched .timeout) := by
  have arm : exec .crouchTimeout s = execCrouchTimeout s := rfl
  rw [arm, execCrouchTimeout, if_pos ⟨hc, hp⟩]
  rfl

theorem crouchTimeout_loaded (hc : s.rxu.crouch = .running) (hp : s.pc.protect = false)
    (h : 3 ≤ s.crouchLoaded.length) :
    exec .crouchTimeout s =
      .next { s with rxu.crouch := .crouched, rxu.stageTimer := none,
                     hli := (s.postNote (.reflex .timeout .tip none (some .crouch) s.rxu.stack.length)).hli } := by
  rw [exec_crouchTimeout hc hp, if_neg (by omega), crouched_timeout_eq]

theorem crouchTimeout_unloaded (hc : s.rxu.crouch = .running) (hp : s.pc.protect = false)
    (h : s.crouchLoaded.length < 3) :
    ∃ t, exec .crouchTimeout s = .next t ∧ t.rxu.crouch = .crouched ∧ t.rxu.stageTimer = none ∧
      t.pc = { s.pc with protect := true } ∧
      (∀ l, s.modeOf l = .stance ∨ s.modeOf l = .swing ∨ s.modeOf l = .placing →
        t.modeOf l = .hold ∧ (t.cmdOf l).target = clampPoint (s.cmdOf l).target) ∧
      (∀ l, s.modeOf l = .limp ∨ s.modeOf l = .hold ∨ s.modeOf l = .calib → t.cmdOf l = s.cmdOf l) ∧
      t.rxu.stack = s.rxu.stack ∧ t.rxu.running = s.rxu.running ∧ t.rxu.re1 = s.rxu.re1 ∧
      t.atp = s.atp ∧ t.fhq = s.fhq ∧ t.ztb = s.ztb ∧ t.tdu = s.tdu ∧ t.pls = s.pls := by
  have latched := setProtect_latched (s := s.crouched .timeout) (by simpa [crouched] using hp)
  rw [exec_crouchTimeout hc hp, if_pos h]
  rw [crouched_timeout_eq] at latched ⊢
  obtain ⟨pc, atp, pls, fhq, ztb, tdu, rxu, cmd⟩ := latched
  refine ⟨_, rfl, (congrArg Reflexes.crouch rxu :), (congrArg Reflexes.stageTimer rxu :), pc, ?_, ?_,
    (congrArg Reflexes.stack rxu :), (congrArg Reflexes.running rxu :), (congrArg Reflexes.re1 rxu :),
    atp, fhq, ztb, tdu, pls⟩
  · intro l loose
    have held := (cmd l).trans (LegCmd.held_of_loose (c := s.cmdOf l) (LegMode.loose_iff.mpr loose))
    exact ⟨(congrArg LegCmd.mode held :), (congrArg LegCmd.target held :)⟩
  · intro l fixed
    have notLoose : (s.modeOf l).loose = false := by
      rcases fixed with e | e | e <;> rw [e] <;> rfl
    exact (cmd l).trans (LegCmd.held_of_not_loose (c := s.cmdOf l) notLoose)

end State
end Sys2Proof.Machine
end

section
/-! ## O55: the swing timer of a RETRACT's LIFT (R147, R74) -/

namespace Sys2Proof.Machine

namespace State

variable {s : State} {l : Leg}

theorem stanceDerived_of_current (h : StanceSetCurrent s) : s.stanceDerived = s.scu.stance := by
  refine PerLeg.ext_get fun k => ?_
  have derived : s.stanceDerived.get k = true ↔ s.inStance k = true := by
    rw [h k]
    simp [stanceDerived, linkOk, admitted, and_assoc]
  exact Bool.eq_iff_iff.mpr derived

theorem otherInAir_of_one (h : OneLegInAir s) (hl : s.inAir l) : s.otherInAir l = false := by
  refine Bool.eq_false_iff.mpr fun other => ?_
  obtain ⟨k, -, hk⟩ := List.any_eq_true.mp other
  obtain ⟨hne, air⟩ : k ≠ l ∧ s.inAir k := by simpa [inAir] using hk
  exact hne (h k l air hl)

/-- R27: no leg joins or leaves the stance set when a leg off the ground is given a place to step on. -/
theorem setCmd_placing_stanceDerived (h : s.modeOf l ≠ .stance) (p : Point) (c : Int) :
    (s.setCmd l .placing p c).stanceDerived = s.stanceDerived := by
  have verified : ∀ k, (s.setCmd l .placing p c).verifiedOf k = s.verifiedOf k := fun k =>
    congrArg (PerLeg.get · k) (setCmd_verified (by decide) (by decide) s l p c)
  refine PerLeg.ext_get fun k => ?_
  by_cases hk : k = l
  · subst hk
    have before : (s.modeOf k == .stance) = false := beq_false_of_ne h
    have after : ((s.setCmd k .placing p c).modeOf k == .stance) = false := by simp [modeOf]
    simp only [stanceDerived, PerLeg.get_tab, before, after, Bool.false_and]
  · simp [stanceDerived, modeOf, verified, setCmd_cmdOf_of_ne s .placing p c hk]

/-- R74: the placement recorded. -/
def placing (s : State) (l : Leg) (target : Point) (clearance : Int) (entry : Option Foothold) : State :=
  { s with pls.placement := some l, pls.sub := .lower, pls.attempt := 0, pls.target := target,
           pls.attemptTarget := target, pls.liftClearance := clearance,
           pls.maxReplace := s.ssq.latched.maxReplace, pls.surface := s.ssq.latched.surface,
           pls.entry := entry, pls.placeTimer := some 0, pls.reswingTimer := none }

/-- R74: a leg in the air, alone there, is commanded into PLACING, and no more. -/
theorem beginPlacement_in_air (hair : s.modeOf l = .swing) (hone : OneLegInAir s) (hset : StanceSetCurrent s)
    (p : Point) (c : Int) (e : Option Foothold) :
    s.beginPlacement l p c e = (s.placing l p c e).setCmd l .placing p (s.cmdOf l).clearance := by
  have alone : (s.placing l p c e).otherInAir l = false := otherInAir_of_one (s := s) hone (.inl hair)
  have derived : (s.placing l p c e).stanceDerived = s.scu.stance := stanceDerived_of_current hset
  have off : (s.placing l p c e).modeOf l ≠ .stance := by
    rw [show (s.placing l p c e).modeOf l = .swing from hair]
    decide
  have commanded : (s.placing l p c e).airCmd l .placing p (s.cmdOf l).clearance =
      (s.placing l p c e).setCmd l .placing p (s.cmdOf l).clearance := by
    rw [airCmd, alone]
    rfl
  have current := (setCmd_placing_stanceDerived off p (s.cmdOf l).clearance).trans derived
  calc s.beginPlacement l p c e
      = ((s.placing l p c e).airCmd l .placing p (s.cmdOf l).clearance).stanceUpdate := rfl
    _ = _ := by
      rw [commanded]
      exact stanceUpdateWith_of_current _ _ (current.trans (by rw [setCmd_scu]; rfl))

/-- R146: the LIFT over, the stage PLACE. -/
def lifted (s : State) (r : Running) : State :=
  { s with rxu.running := some { r with stage := .place }, rxu.liftTimer := none }

/-- R140: a rise of RE1 that waits for the stage's end. -/
def liveAgain (s : State) : State :=
  if s.rxu.waiting then { s with rxu.re1 := true, rxu.waiting := false } else s

theorem liftTimedOut_of_not_waiting {r : Running} (hr : s.rxu.running = some r) (hl : r.leg = some l)
    (hw : s.rxu.waiting = false) :
    s.liftTimedOut = if (s.lifted r).takesAtOnce l then (s.lifted r).raiseCause .obstruct l
      else ((s.lifted r).raiseCause .obstruct l).runStage := by
  obtain ⟨kind, trigger, leg, param, retract, stage, lift⟩ := r
  obtain rfl : leg = some l := hl
  generalize hq : s.lifted ⟨kind, trigger, some l, param, retract, stage, lift⟩ = q
  have settled : q.rxu.waiting = false := by
    rw [← hq]
    exact hw
  have still : q.liveAgain = q := by rw [liveAgain, settled, if_neg (by decide)]
  have unfolded : s.liftTimedOut =
      if q.rxu.waiting && q.liveAgain.mayTakePending then q.liveAgain.takePending.raiseCause .obstruct l
      else if q.liveAgain.takesAtOnce l then q.liveAgain.raiseCause .obstruct l
      else (q.liveAgain.raiseCause .obstruct l).runStage := by
    unfold liftTimedOut
    rw [hr, ← hq]
    rfl
  rw [unfolded, still, settled]
  rfl

/-- R137, R147: where reflexes are not live OBSTRUCT waits on the list, and PLACE begins. -/
theorem exec_retractLiftTimeout {r : Running} (hr : s.rxu.running = some r) (hs : r.stage = .lift)
    (hl : r.leg = some l) (hp : s.pc.protect = false) (hw : s.rxu.waiting = false) (hre : s.rxu.re1 = false)
    (hb : s.pc.body = .recover) (ha : (s.link l).withdrawn = false) :
    exec .retractLiftTimeout s = .next (((s.lifted r).pendAdd .obstruct l).runStage) := by
  have later : (s.lifted r).takesAtOnce l = false := by simp [takesAtOnce, lifted, hre]
  have raised : (s.lifted r).raiseCause .obstruct l = (s.lifted r).pendAdd .obstruct l := by
    rcases raiseCause_cases (s.lifted r) .obstruct l with ⟨h, -⟩ | ⟨-, -, -, e⟩ | ⟨h, -⟩
    · have standing : s.pc.body.standing = true := by rw [hb]; rfl
      have admits : s.admitted l = true := by simp [admitted, ha]
      rcases h with h | h
      · exact absurd standing (by rw [show s.pc.body.standing = false from h]; decide)
      · exact absurd admits (by rw [show s.admitted l = false from h]; decide)
    · exact e
    · rw [later] at h
      cases h
  have arm : exec .retractLiftTimeout s = execRetractLiftTimeout s := rfl
  have timedOut : s.liftTimedOut = ((s.lifted r).raiseCause .obstruct l).runStage := by
    rw [liftTimedOut_of_not_waiting hr hl hw, later]
    rfl
  simp [arm, execRetractLiftTimeout, hr, hs, hp, timedOut, raised]

/-- R146, R74: PLACE begins for a leg that is in the air. -/
theorem runStage_place {r : Running} (hr : s.rxu.running = some r) (hs : r.stage = .place) (hl : r.leg = some l)
    (hair : s.modeOf l = .swing) (hone : OneLegInAir s) (hset : StanceSetCurrent s) :
    s.runStage = (s.placing l r.retract r.lift none).setCmd l .placing r.retract (s.cmdOf l).clearance := by
  have started : s.startStage = (s.beginPlacement l r.retract r.lift none, .running) := by
    simp [startStage, hr, hs, hl, otherInAir_of_one hone (.inl hair)]
  unfold runStage
  rw [started]
  exact (settle_running _).trans (beginPlacement_in_air hair hone hset _ _ _)

/-- R147, R74: the swing timer of a LIFT, reflexes not live. -/
theorem retractLiftTimeout_places {r : Running} (hr : s.rxu.running = some r) (hs : r.stage = .lift)
    (hl : r.leg = some l) (hp : s.pc.protect = false) (hw : s.rxu.waiting = false) (hre : s.rxu.re1 = false)
    (hb : s.pc.body = .recover) (ha : (s.link l).withdrawn = false) (hair : s.modeOf l = .swing)
    (hone : OneLegInAir s) (hset : StanceSetCurrent s) :
    ∃ t, exec .retractLiftTimeout s = .next t ∧ t.rxu.running = some { r with stage := .place } ∧
      t.rxu.liftTimer = none ∧ t.pls.placement = some l ∧ t.pls.target = r.retract ∧ t.pls.sub = .lower ∧
      t.pls.attempt = 0 ∧ t.pls.entry = none ∧ t.pls.placeTimer = some 0 ∧ t.modeOf l = .placing ∧
      (t.cmdOf l).target = clampPoint r.retract ∧
      t.rxu.pending = (if ⟨.obstruct, l⟩ ∈ s.rxu.pending then s.rxu.pending
        else s.rxu.pending ++ [⟨.obstruct, l⟩]) ∧
      (∀ k, k ≠ l → t.cmdOf k = s.cmdOf k) ∧ t.rxu.stack = s.rxu.stack ∧ t.pc = s.pc ∧ t.scu = s.scu ∧
      t.hli = s.hli ∧ t.fhq = s.fhq ∧ t.atp = s.atp ∧ t.ztb = s.ztb ∧ t.tdu = s.tdu := by
  rw [exec_retractLiftTimeout hr hs hl hp hw hre hb ha]
  have ssq : ((s.lifted r).pendAdd .obstruct l).ssq = s.ssq := pendAdd_ssq _ _ _
  have scu : ((s.lifted r).pendAdd .obstruct l).scu = s.scu := pendAdd_scu _ _ _
  have llc : ((s.lifted r).pendAdd .obstruct l).llc = s.llc := pendAdd_llc _ _ _
  have running : ((s.lifted r).pendAdd .obstruct l).rxu.running = some { r with stage := .place } := by
    unfold pendAdd
    split <;> rfl
  have liftTimer : ((s.lifted r).pendAdd .obstruct l).rxu.liftTimer = none := by
    unfold pendAdd
    split <;> rfl
  have stack : ((s.lifted r).pendAdd .obstruct l).rxu.stack = s.rxu.stack := by
    unfold pendAdd
    split <;> rfl
  have pending := pendAdd_pending_list (s.lifted r) .obstruct l
  have pc : ((s.lifted r).pendAdd .obstruct l).pc = s.pc := pendAdd_pc _ _ _
  have hli : ((s.lifted r).pendAdd .obstruct l).hli = s.hli := pendAdd_hli _ _ _
  have fhq : ((s.lifted r).pendAdd .obstruct l).fhq = s.fhq := pendAdd_fhq _ _ _
  have atp : ((s.lifted r).pendAdd .obstruct l).atp = s.atp := pendAdd_atp _ _ _
  have ztb : ((s.lifted r).pendAdd .obstruct l).ztb = s.ztb := pendAdd_ztb _ _ _
  have tdu : ((s.lifted r).pendAdd .obstruct l).tdu = s.tdu := pendAdd_tdu _ _ _
  generalize (s.lifted r).pendAdd .obstruct l = q at *
  have cmd : ∀ k, q.cmdOf k = s.cmdOf k := fun k => by simp only [cmdOf, ssq]
  have air : q.modeOf l = .swing := by simpa only [modeOf, cmd] using hair
  have one : OneLegInAir q := by simpa only [OneLegInAir, inAir, modeOf, cmd] using hone
  have current : StanceSetCurrent q := by
    simpa only [StanceSetCurrent, inStance, modeOf, verifiedOf, link, cmd, scu, llc, ssq] using hset
  rw [runStage_place running rfl hl air one current]
  refine ⟨_, rfl, ?_⟩
  have rxu : ((q.placing l r.retract r.lift none).setCmd l .placing r.retract (q.cmdOf l).clearance).rxu = q.rxu :=
    setCmd_rxu (by decide) _ _ _ _
  have others : ∀ k, k ≠ l → ((q.placing l r.retract r.lift none).setCmd l .placing r.retract
      (q.cmdOf l).clearance).cmdOf k = s.cmdOf k := fun k hk =>
    (setCmd_cmdOf_of_ne _ _ _ _ hk).trans (cmd k)
  exact ⟨by rw [rxu, running], by rw [rxu, liftTimer], by simp [placing], by simp [placing], by simp [placing],
    by simp [placing], by simp [placing], by simp [placing], by simp [modeOf], by simp, by rw [rxu, pending]; rfl,
    others, by rw [rxu, stack], by simp [placing, pc], by simp [placing, scu], by simp [placing, hli],
    by simp [placing, fhq], by simp [placing, atp], by simp [placing, ztb], by simp [placing, tdu]⟩

end State
end Sys2Proof.Machine

open Sys2Proof Sys2Proof.Machine

/-! ## O55 -/

/-- Settles O55: what each stage timer ends, by the context below the reflex; then the CROUCH and the LIFT. -/
theorem reflexStagesThatTimeOut : Obligations.ReflexStagesThatTimeOut := by
  unfold Obligations.ReflexStagesThatTimeOut
  refine ⟨?_, ?_, ?_, ?_, ?_⟩
  · intro s r running wait clear stack body pending steady
    obtain ⟨t, next, hended, phase⟩ :=
      State.braceTimeout_over_stand ⟨running, wait, clear, body, pending, steady, stack⟩
    obtain ⟨pc, stack, running, re1, stageTimer, -, pending, cmd, -, -, hli, sway, atp, fhq, ztb, tdu, llc⟩ := hended
    exact ⟨t, next, pc, stack, running, re1, stageTimer, pending, cmd, phase, hli, atp, fhq, ztb, tdu, llc, sway⟩
  · intro s r running wait clear body pending steady noted
    have braced : ∀ {c}, s.rxu.stack = [c] → State.Braced s r c := fun stack =>
      ⟨running, wait, clear, body, pending, steady, stack⟩
    refine ⟨?_, ?_, ?_⟩
    · intro l index phase count dir attempts stack
      exact State.braceTimeout_over_walk (braced stack)
    · intro index count dir attempts stack
      obtain ⟨t, next, hended, -, ssq⟩ := State.braceTimeout_over_pause (braced stack)
      exact ⟨t, next, hended, by rw [ssq], by rw [ssq], by rw [ssq], by rw [ssq], by rw [ssq]⟩
    · intro origin pass count dir nextStep attempts first rest failing stack
      refine ⟨fun hpass => State.braceTimeout_over_reseat (braced stack) failing hpass, ?_⟩
      rintro rfl
      obtain ⟨stands, others⟩ := State.braceTimeout_after_fourth_pass (braced stack) failing
      by_cases ho : origin = .stand
      · obtain ⟨t, next, hover, pose, count, nextStep⟩ := stands ho
        obtain ⟨reseat, reseatSet, reseatLeg, pass, phase, stepping, dir⟩ := hover
        refine ⟨t, next, reseat, reseatSet, reseatLeg, pass, phase, stepping, dir,
          (congrArg (fun s => s.rxu.stack) pose :), (congrArg (fun s => s.rxu.running) pose :),
          (congrArg (fun s => s.rxu.re1) pose :), (congrArg (fun s => s.ssq.cmd) pose :),
          fun _ => ⟨(congrArg (fun s => s.pc.body) pose :), count, nextStep, ?_⟩, fun ne => absurd ho ne⟩
        exact (congrArg State.hli pose :)
      · obtain ⟨t, next, hover, pose, count, nextStep⟩ := others ho
        obtain ⟨reseat, reseatSet, reseatLeg, pass, phase, stepping, dir⟩ := hover
        refine ⟨t, next, reseat, reseatSet, reseatLeg, pass, phase, stepping, dir,
          (congrArg (fun s => s.rxu.stack) pose :), (congrArg (fun s => s.rxu.running) pose :),
          (congrArg (fun s => s.rxu.re1) pose :), (congrArg (fun s => s.ssq.cmd) pose :),
          fun e => absurd e ho, fun _ => ⟨(congrArg (fun s => s.pc.body) pose :), count, nextStep, ?_⟩⟩
        exact (congrArg State.hli pose :)
  · intro s r l running reseat shift stepping clear body pending steady noted
    have stalls : ∀ {c}, s.rxu.stack = [c] → State.Stalls s r l c := fun stack =>
      ⟨running, reseat, shift, stepping, clear, body, pending, steady, stack⟩
    refine ⟨?_, ?_⟩
    · intro ctx b stack hctx
      exact State.shiftStall_over_rest (stalls stack) hctx
    · intro leg k index phase count dir attempts stack hleg
      exact State.shiftStall_over_walk (stalls stack) hleg
  · intro s crouch clear loaded noted
    exact ⟨State.crouchTimeout_loaded crouch clear, State.crouchTimeout_unloaded crouch clear⟩
  · intro s r l running stage leg clear waiting re1 body admitted swing one current
    exact State.retractLiftTimeout_places running stage leg clear waiting re1 body admitted swing one current

end

section
/-! ## The footing of an event

What the four conditions of R27 read, the stance set held, and what the samples alone write (R23, R24, R25). One relation
between the state in which an event begins and a state on its way: the samples' share is as it was, and a stance set
that was current is current again. Every shared operation keeps the relation; a command, a flag or a link that changes
leaves the set stale only until the change of the stance set that follows it in the event. -/

namespace Sys2Proof.Machine

/-- What samples alone write: the attitude port, the averaged vector, and the two marks of staleness. -/
structure Sampling where
  atp : Attitude
  dbar : Sample
  attStale : Bool
  tipStale : Bool

/-- That, with what the conditions of R27 read, and the stance set held. -/
structure Footing where
  sampling : Sampling
  modes : PerLeg LegMode
  verified : PerLeg Bool
  links : PerLeg LinkState
  withdrawn : PerLeg Bool
  stance : PerLeg Bool

theorem PerLeg.map_modify_of_eq {α β : Type} {g : α → β} {f : α → α} (h : ∀ a, g (f a) = g a) (p : PerLeg α) (l : Leg) :
    (p.modify l f).map g = p.map g := by
  cases l <;> simp [modify, set, map, get, h]

theorem PerLeg.map_set_of_eq {α β : Type} {g : α → β} {p : PerLeg α} {l : Leg} {a : α} (h : g a = g (p.get l)) :
    (p.set l a).map g = p.map g := by
  cases l <;> simp_all [set, map, get]

namespace State

def sampling (s : State) : Sampling := ⟨s.atp, s.scu.dbar, s.scu.attStale, s.scu.tipStale⟩

def footing (s : State) : Footing :=
  { sampling := s.sampling, modes := s.ssq.cmd.map LegCmd.mode, verified := s.ssq.verified,
    links := s.llc.map Link.link, withdrawn := s.llc.map Link.withdrawn, stance := s.scu.stance }

variable {s t : State}

/-- R27: the four conditions read the footing alone. -/
theorem stanceDerived_of_footing (e : t.footing = s.footing) : t.stanceDerived = s.stanceDerived := by
  have modes (l : Leg) : t.modeOf l = s.modeOf l := by
    simpa [footing, modeOf, cmdOf] using congrArg (fun f => f.modes.get l) e
  have verified (l : Leg) : t.verifiedOf l = s.verifiedOf l := congrArg (fun f => f.verified.get l) e
  have links (l : Leg) : (t.link l).link = (s.link l).link := by
    simpa [footing, link] using congrArg (fun f => f.links.get l) e
  have withdrawn (l : Leg) : (t.link l).withdrawn = (s.link l).withdrawn := by
    simpa [footing, link] using congrArg (fun f => f.withdrawn.get l) e
  simp only [stanceDerived, modes, verified, linkOk, links, admitted, withdrawn]

/-- R27: the set held is the one that the conditions give. -/
theorem stanceSetCurrent_iff : StanceSetCurrent s ↔ s.stanceDerived = s.scu.stance := by
  refine ⟨stanceDerived_of_current, fun h l => ?_⟩
  have held : s.inStance l = s.stanceDerived.get l := congrArg (fun p => p.get l) h.symm
  rw [held]
  simp [stanceDerived, linkOk, admitted, and_assoc]

/-- What an event has kept on its way from one state to another. -/
structure Footed (s₀ s : State) : Prop where
  sampling : s.sampling = s₀.sampling
  current : s₀.stanceDerived = s₀.scu.stance → s.stanceDerived = s.scu.stance

variable {s₀ : State}

theorem Footed.refl (s : State) : Footed s s := ⟨rfl, id⟩

/-- An operation that writes nothing of the footing keeps it. -/
theorem Footed.frame (h : Footed s₀ s) (e : t.footing = s.footing) : Footed s₀ t where
  sampling := (congrArg Footing.sampling e).trans h.sampling
  current hs := (stanceDerived_of_footing e).trans ((h.current hs).trans (congrArg Footing.stance e).symm)

/-- A fold over the legs keeps the footing when every pass does. -/
theorem foldl_footed {f : State → Leg → State} (hf : ∀ s l, Footed s₀ s → Footed s₀ (f s l)) (legs : List Leg)
    (h : Footed s₀ s) : Footed s₀ (legs.foldl f s) := by
  induction legs generalizing s with
  | nil => exact h
  | cons l rest ih => exact ih (hf _ _ h)

theorem ite_footed {c : Prop} [Decidable c] (hs : Footed s₀ s) (ht : Footed s₀ t) :
    Footed s₀ (if c then s else t) := by
  split
  · exact hs
  · exact ht

/-! ### What writes nothing of the footing -/

theorem footing_of_blocks (ha : t.atp = s.atp) (hscu : t.scu = s.scu) (hssq : t.ssq = s.ssq) (hl : t.llc = s.llc) :
    t.footing = s.footing := by
  simp only [footing, sampling, ha, hscu, hssq, hl]

theorem footing_of_links {k : PerLeg Link} (hl : k.map Link.link = s.llc.map Link.link)
    (hw : k.map Link.withdrawn = s.llc.map Link.withdrawn) : ({ s with llc := k } : State).footing = s.footing := by
  simp only [footing, hl, hw]
  rfl

/-- A change of a link that is neither of its state nor of the withdrawn mark. -/
theorem footing_of_link (l : Leg) {f : Link → Link} (hl : ∀ k, (f k).link = k.link := by intro _; rfl)
    (hw : ∀ k, (f k).withdrawn = k.withdrawn := by intro _; rfl) :
    ({ s with llc := s.llc.modify l f } : State).footing = s.footing :=
  footing_of_links (PerLeg.map_modify_of_eq hl _ _) (PerLeg.map_modify_of_eq hw _ _)

theorem footing_of_set (l : Leg) {k : Link} (hl : k.link = (s.link l).link := by rfl)
    (hw : k.withdrawn = (s.link l).withdrawn := by rfl) :
    ({ s with llc := s.llc.set l k } : State).footing = s.footing :=
  footing_of_links (PerLeg.map_set_of_eq hl) (PerLeg.map_set_of_eq hw)

@[simp] theorem postNote_footing (s : State) (n : Note) : (s.postNote n).footing = s.footing :=
  footing_of_blocks (by simp) (by simp) (by simp) (by simp)

@[simp] theorem postFault_footing (s : State) (c : FaultCode) (l : Option Leg) : (s.postFault c l).footing = s.footing :=
  postNote_footing _ _

@[simp] theorem handToLink_footing (s : State) (l : Leg) : (s.handToLink l).footing = s.footing := by
  unfold handToLink
  split
  · exact footing_of_link l
  · exact footing_of_link l

@[simp] theorem endExchange_footing (s : State) (l : Leg) : (s.endExchange l).footing = s.footing := by
  have ended : ({ s with llc := s.llc.modify l fun k => { k with awaiting := false, report := none } } : State).footing =
      s.footing := footing_of_link l
  unfold endExchange
  dsimp only
  split
  · exact (footing_of_link l).trans ended
  · exact ended

@[simp] theorem tellGone_footing (s : State) (c : Cause) (l : Leg) : (s.tellGone c l).footing = s.footing := rfl

@[simp] theorem endOverload_footing (s : State) (l : Leg) : (s.endOverload l).footing = s.footing := by
  unfold endOverload
  split
  · rw [tellGone_footing]
    exact footing_of_link l
  · rfl

@[simp] theorem pendAdd_footing (s : State) (c : Cause) (l : Leg) : (s.pendAdd c l).footing = s.footing :=
  footing_of_blocks (by simp) (by simp) (by simp) (by simp)

@[simp] theorem dropCause_footing (s : State) (c : Cause) (l : Leg) : (s.dropCause c l).footing = s.footing := by
  cases c with
  | overload => exact footing_of_link l
  | _ => rfl

@[simp] theorem endSlip_footing (s : State) (l : Leg) : (s.endSlip l).footing = s.footing :=
  footing_of_blocks (by simp) (by simp) (by simp) (by simp)

@[simp] theorem slmLeave_footing (s : State) (l : Leg) : (s.slmLeave l).footing = s.footing :=
  footing_of_blocks (by simp) (by simp) (by simp) (by simp)

@[simp] theorem setBody_footing (s : State) (b : BodyState) (r : BodyReason) : (s.setBody b r).footing = s.footing := by
  unfold setBody
  dsimp only
  split_ifs <;> simp [footing, sampling]

@[simp] theorem zoneLookup_footing (s : State) (r : ZoneReason) : (s.zoneLookup r).footing = s.footing :=
  footing_of_blocks (by simp) (by simp) (by simp) (by simp)

@[simp] theorem heldTip_footing (s : State) : s.heldTip.footing = s.footing := postNote_footing _ _

/-! ### Leg commands -/

@[simp] theorem setCmd_sampling (s : State) (l : Leg) (m : LegMode) (p : Point) (c : Int) :
    (s.setCmd l m p c).sampling = s.sampling := by
  simp [sampling]

@[simp] theorem airCmd_sampling (s : State) (l : Leg) (m : LegMode) (p : Point) (c : Int) :
    (s.airCmd l m p c).sampling = s.sampling := by
  simp [sampling]

@[simp] theorem setTarget_verified (s : State) (l : Leg) (p : Point) : (s.setTarget l p).ssq.verified = s.ssq.verified := by
  have same : s.modeOf l = (s.cmdOf l).mode := rfl
  unfold setTarget setCmd
  simp only [same, if_true]
  split_ifs <;> simp

/-- R27: a leg that moves in its mode neither joins nor leaves the stance set. -/
@[simp] theorem setTarget_footing (s : State) (l : Leg) (p : Point) : (s.setTarget l p).footing = s.footing := by
  have modes : (s.setTarget l p).ssq.cmd.map LegCmd.mode = s.ssq.cmd.map LegCmd.mode := by
    refine PerLeg.ext_get fun k => ?_
    rw [PerLeg.get_map, PerLeg.get_map]
    by_cases hk : k = l
    · subst hk
      exact (congrArg LegCmd.mode (setCmd_cmdOf_self s k (s.modeOf k) p (s.cmdOf k).clearance) :)
    · exact congrArg LegCmd.mode (setCmd_cmdOf_of_ne s _ _ _ hk)
  have links : (s.setTarget l p).llc.map Link.link = s.llc.map Link.link :=
    PerLeg.ext_get fun k => by
      rw [PerLeg.get_map, PerLeg.get_map]
      exact setCmd_linkState s l k (s.modeOf l) p (s.cmdOf l).clearance
  have withdrawn : (s.setTarget l p).llc.map Link.withdrawn = s.llc.map Link.withdrawn :=
    PerLeg.ext_get fun k => by
      rw [PerLeg.get_map, PerLeg.get_map]
      exact setCmd_withdrawn s l k (s.modeOf l) p (s.cmdOf l).clearance
  simp only [footing, sampling, setTarget_verified, setTarget_atp, setTarget_scu, modes, links, withdrawn]

@[simp] theorem moveStance_footing (s : State) (f : Point → Point) : (s.moveStance f).footing = s.footing :=
  foldl_keeps footing (fun s l => by split <;> simp) _ _

/-- R27: nor does a leg off the ground that goes from one mode to another. -/
theorem setCmd_stanceDerived_off_ground {l : Leg} {m : LegMode} (hl : s.modeOf l ≠ .stance) (hm : m ≠ .stance) (p : Point)
    (c : Int) : (s.setCmd l m p c).stanceDerived = s.stanceDerived := by
  refine PerLeg.ext_get fun k => ?_
  by_cases hk : k = l
  · subst hk
    have before : (s.modeOf k == .stance) = false := beq_false_of_ne hl
    have after : ((s.setCmd k m p c).modeOf k == .stance) = false := by simpa [modeOf] using hm
    simp only [stanceDerived, PerLeg.get_tab, before, after, Bool.false_and]
  · have verified := setCmd_verifiedOf_of_ne s m p c hk
    simp [stanceDerived, modeOf, verified, setCmd_cmdOf_of_ne s m p c hk]

theorem setCmd_footed_off_ground {l : Leg} {m : LegMode} (hl : s.modeOf l ≠ .stance) (hm : m ≠ .stance) (p : Point)
    (c : Int) (h : Footed s₀ s) : Footed s₀ (s.setCmd l m p c) where
  sampling := (setCmd_sampling ..).trans h.sampling
  current hs := by rw [setCmd_stanceDerived_off_ground hl hm, setCmd_scu, h.current hs]

theorem airCmd_footed {l : Leg} {m : LegMode} (hl : s.modeOf l ≠ .stance) (hm : m ≠ .stance) (p : Point) (c : Int)
    (h : Footed s₀ s) : Footed s₀ (s.airCmd l m p c) :=
  ite_footed h (setCmd_footed_off_ground hl hm p c h)

/-! ### TIP, the latch, and a change of the stance set -/

theorem tipTestWith_footed {raise : State → State} (hr : ∀ s, Footed s₀ s → Footed s₀ (raise s)) (h : Footed s₀ s) :
    Footed s₀ (s.tipTestWith raise) := by
  rcases tipTestWith_cases raise s with ⟨-, e⟩ | ⟨-, -, e⟩ | ⟨-, -, -, e⟩ | ⟨-, -, -, e⟩ <;> rw [e]
  · exact h.frame rfl
  · exact h.frame rfl
  · exact h.frame rfl
  · exact hr _ (h.frame rfl)

/-- R27: the set derived again is current. -/
theorem restanced_footed (h : s.sampling = s₀.sampling) : Footed s₀ s.restanced where
  sampling := (foldl_keeps sampling (fun s l => by simp [sampling]) _ _).trans h
  current _ := by
    rw [restanced_stance]
    exact stanceDerived_congr (by simp) (by simp) (by simp)

/-- R27: whatever an event has written, a change of the stance set leaves it current. -/
theorem stanceUpdateWith_footed {test : State → State} (ht : ∀ s, Footed s₀ s → Footed s₀ (test s))
    (h : s.sampling = s₀.sampling) : Footed s₀ (s.stanceUpdateWith test) := by
  rcases stanceUpdateWith_cases test s with ⟨hs, e⟩ | ⟨-, e⟩ <;> rw [e]
  · exact ⟨h, fun _ => hs⟩
  · exact ht _ (restanced_footed h)

theorem holdLeg_footed (s : State) (l : Leg) (h : Footed s₀ s) : Footed s₀ (s.holdLeg l) := by
  cases hm : (s.modeOf l).loose with
  | false => rwa [holdLeg_of_not_loose hm]
  | true =>
    rw [holdLeg_of_loose hm]
    exact stanceUpdateWith_footed (fun _ => tipTestWith_footed fun _ hu => hu.frame (by simp))
      ((setCmd_sampling ..).trans h.sampling)

theorem setProtect_footed (h : Footed s₀ s) : Footed s₀ s.setProtect :=
  ite_footed h (foldl_footed holdLeg_footed _ (h.frame (postFault_footing _ _ _)))

theorem overflow_footed (t : Trigger) (l : Option Leg) (h : Footed s₀ s) : Footed s₀ (s.overflow t l) :=
  setProtect_footed (h.frame (postNote_footing _ _))

@[simp] theorem enterReflex_footing (s : State) (r : Running) : (s.enterReflex r).footing = s.footing := by
  unfold enterReflex
  dsimp only
  rw [setBody_footing, postNote_footing]
  rfl

theorem crouchLeg_footed (s : State) (l : Leg) (h : Footed s₀ s) : Footed s₀ (s.crouchLeg l) := by
  unfold crouchLeg
  dsimp only
  split
  · exact h.frame (by simp)
  · rename_i hm
    exact airCmd_footed (by simp [hm]) (by decide) _ _ h
  · rename_i hm
    exact airCmd_footed (by simp [hm]) (by decide) _ _ h
  · exact h

theorem beginCrouch_footed (h : Footed s₀ s) : Footed s₀ s.beginCrouch :=
  (foldl_footed crouchLeg_footed _ h).frame rfl

theorem raiseTip_footed (h : Footed s₀ s) : Footed s₀ s.raiseTip := by
  unfold raiseTip
  split
  · exact h.frame (by simp)
  · split
    · split
      · exact beginCrouch_footed (h.frame (by simp))
      · exact overflow_footed _ _ h
    · exact h.frame (by simp)

theorem tipTest_footed (h : Footed s₀ s) : Footed s₀ s.tipTest := tipTestWith_footed (fun _ => raiseTip_footed) h

theorem stanceUpdate_footed (h : s.sampling = s₀.sampling) : Footed s₀ s.stanceUpdate :=
  stanceUpdateWith_footed (fun _ => tipTest_footed) h

theorem recomputeTest_footed (h : Footed s₀ s) : Footed s₀ s.recomputeTest := tipTest_footed (h.frame rfl)

/-! ### What a resumption starts, and how walks and reseats end -/

@[simp] theorem beginShift_footing (s : State) (l : Leg) : (s.beginShift l).footing = s.footing := rfl

@[simp] theorem beginStepShift_footing (s : State) (l : Leg) (i : Nat) : (s.beginStepShift l i).footing = s.footing := by
  unfold beginStepShift
  split <;> rfl

@[simp] theorem beginStride_footing (s : State) : s.beginStride.footing = s.footing := by
  simp only [beginStride, beginStepShift_footing]
  rfl

theorem beginPlacement_footed (l : Leg) (p : Point) (c : Int) (e : Option Foothold) (h : Footed s₀ s) :
    Footed s₀ (s.beginPlacement l p c e) :=
  stanceUpdate_footed ((airCmd_sampling ..).trans h.sampling)

@[simp] theorem postStride_footing (s : State) : s.postStride.footing = s.footing := postNote_footing _ _

@[simp] theorem endStep_footing (s : State) : s.endStep.footing = s.footing := by
  unfold endStep
  split
  · exact postStride_footing _
  · rfl

@[simp] theorem enterHold_footing (s : State) (n : NextStep) (r : BodyReason) : (s.enterHold n r).footing = s.footing :=
  setBody_footing _ _ _

@[simp] theorem walkOver_footing (s : State) (r : BodyReason) : (s.walkOver r).footing = s.footing := setBody_footing _ _ _

@[simp] theorem holdAfterStep_footing (s : State) (r r' : BodyReason) : (s.holdAfterStep r r').footing = s.footing := by
  unfold holdAfterStep
  split <;> simp

@[simp] theorem resumeAsHold_footing (s : State) (l : Option Leg) (i : Nat) (f : Phase) (r : BodyReason) :
    (s.resumeAsHold l i f r).footing = s.footing := by
  unfold resumeAsHold
  split
  · exact enterHold_footing _ _ _
  · exact holdAfterStep_footing _ _ _
  · exact enterHold_footing _ _ _

@[simp] theorem reseatSucceed_footing (s : State) (n : Nat) : (s.reseatSucceed n).footing = s.footing := by
  have noted := postNote_footing s.unreseated (.step none n s.scu.margin)
  unfold reseatSucceed
  dsimp only
  split
  · exact noted
  · exact (setBody_footing _ _ _).trans ((postStride_footing _).trans noted)
  · exact (setBody_footing _ _ _).trans noted

@[simp] theorem reseatFail_footing (s : State) : s.reseatFail.footing = s.footing := by
  have noted : s.reseatGivenUp.footing = s.footing := postNote_footing s.unreseated _
  by_cases ho : s.pls.origin = .stand
  · rw [reseatFail_of_stand ho]
    exact (setBody_footing _ _ _).trans noted
  · rw [reseatFail_of_ne ho]
    exact noted

@[simp] theorem reseatCheck_footing (s : State) (n : Nat) : (s.reseatCheck n).footing = s.footing := by
  unfold reseatCheck
  dsimp only
  split
  · exact reseatSucceed_footing _ _
  · split
    · exact reseatFail_footing _
    · rfl

@[simp] theorem beginReseat_footing (s : State) : s.beginReseat.footing = s.footing := reseatCheck_footing _ _

/-! ### Reflexes -/

@[simp] theorem braceRaise_footing (s : State) (i : Int) : (s.braceRaise i).footing = s.footing := by
  simp [braceRaise]

theorem startStage_footed (h : Footed s₀ s) : Footed s₀ s.startStage.1 := by
  unfold startStage
  split
  · exact h
  · split
    · exact h
    · split
      · rename_i l _ _ hm
        have off : s.modeOf l ≠ .stance := by rcases hm with hm | hm <;> simp [hm]
        exact (airCmd_footed off (by decide) _ _ h).frame rfl
      · exact h
    · split
      · exact h
      · exact beginPlacement_footed _ _ _ _ h
    · exact h.frame rfl
    · exact h.frame rfl
    · split
      · exact h
      · exact h.frame rfl
    · exact h

theorem takeCause_footed (c : Cause) (l : Leg) (h : Footed s₀ s) : Footed s₀ (s.takeCause c l).1 := by
  unfold takeCause
  split
  · dsimp only
    have entered : Footed s₀ (s.enterReflex (s.reflexFor c l)) := h.frame (by simp)
    have begun := startStage_footed (ite_footed (c := (s.reflexFor c l).kind = .brace)
      (entered.frame (braceRaise_footing _ (s.reflexFor c l).param)) entered)
    split
    · rename_i t e
      rw [e] at begun
      exact ite_footed begun (tipTest_footed begun)
    · exact begun
  · exact overflow_footed _ _ h

theorem takeOldest_footed (h : Footed s₀ s) : Footed s₀ s.takeOldest.1 := by
  unfold takeOldest
  split
  · exact h
  · exact takeCause_footed _ _ (h.frame rfl)

theorem resumeContext_footed (c : Context) (f : Bool) (h : Footed s₀ s) : Footed s₀ (s.resumeContext c f).1 := by
  cases c with
  | stand => exact h.frame (setBody_footing _ _ _)
  | unsettled => exact h.frame (setBody_footing _ _ _)
  | hold n k d => exact h.frame (setBody_footing _ _ _)
  | recover r => exact startStage_footed (h.frame rfl)
  | reseat o n k d x a => exact h.frame ((reseatCheck_footing _ _).trans (setBody_footing _ _ _))
  | walk l i f' k d a =>
    simp only [resumeContext]
    split
    · exact h.frame (resumeAsHold_footing _ _ _ _ _)
    · have walking : Footed s₀ (s.walkAgain k d) := h.frame (setBody_footing _ _ _)
      split
      · exact walking.frame rfl
      · exact walking.frame rfl
      · exact walking.frame (beginStepShift_footing _ _ _)

theorem endReflex_footed (f : Bool) (h : Footed s₀ s) : Footed s₀ (s.endReflex f).1 := by
  unfold endReflex
  split
  · exact resumeContext_footed _ _ (h.frame (postNote_footing _ _))
  · exact h

theorem resumedTest_footed (h : Footed s₀ s) : Footed s₀ s.resumedTest := ite_footed h (tipTest_footed h)

theorem settleReflex_footed (n : Nat) (v : Verdict) (h : Footed s₀ s) : Footed s₀ (settleReflex n s v) := by
  induction n generalizing s v with
  | zero => exact h
  | succ n ih =>
    by_cases hv : v = .running
    · rwa [hv, settleReflex_running]
    · have ended := endReflex_footed (v == .failed) h
      rcases e : s.endReflex (v == .failed) with ⟨t, v'⟩
      rw [e] at ended
      by_cases hv' : v' = .running
      · subst hv'
        rw [settleReflex_of_resumed n hv e]
        have tested := resumedTest_footed ended
        exact ite_footed (ih _ (takeOldest_footed tested)) tested
      · rw [settleReflex_of_ended_again n hv hv' e]
        exact ih _ ended

theorem settle_footed (v : Verdict) (h : Footed s₀ s) : Footed s₀ (s.settle v) := settleReflex_footed _ _ h

theorem take_footed (c : Cause) (l : Leg) (h : Footed s₀ s) : Footed s₀ (s.take c l) :=
  settle_footed _ (takeCause_footed _ _ h)

theorem takePending_footed (h : Footed s₀ s) : Footed s₀ s.takePending :=
  ite_footed (settle_footed _ (takeOldest_footed h)) h

theorem enableRise_footed (h : Footed s₀ s) : Footed s₀ s.enableRise := takePending_footed (h.frame rfl)

theorem bodySettled_footed (b : BodyState) (h : Footed s₀ s) : Footed s₀ (s.bodySettled b) :=
  ite_footed h (ite_footed (enableRise_footed (tipTest_footed h)) (tipTest_footed h))

theorem raiseCause_footed (c : Cause) (l : Leg) (h : Footed s₀ s) : Footed s₀ (s.raiseCause c l) := by
  rcases raiseCause_cases s c l with ⟨-, e⟩ | ⟨-, -, -, e⟩ | ⟨-, e⟩ <;> rw [e]
  · exact h.frame (by simp)
  · exact h.frame (by simp)
  · exact take_footed _ _ h

theorem runStage_footed (h : Footed s₀ s) : Footed s₀ s.runStage := settle_footed _ (startStage_footed h)

theorem stageDone_footed (h : Footed s₀ s) : Footed s₀ s.stageDone := by
  unfold stageDone
  dsimp only
  split
  · exact h
  · split
    · exact ite_footed (ite_footed (takePending_footed (h.frame rfl)) (runStage_footed (h.frame rfl)))
        (runStage_footed (h.frame rfl))
    · exact settle_footed _ h

theorem stageFailed_footed (h : Footed s₀ s) : Footed s₀ s.stageFailed := settle_footed _ h

theorem liftTimedOut_footed (h : Footed s₀ s) : Footed s₀ s.liftTimedOut := by
  unfold liftTimedOut
  split
  · exact h
  · split
    · exact h
    · extract_lets _ lifted _ risen
      have kept : Footed s₀ risen := ite_footed (h.frame rfl) (h.frame rfl)
      exact ite_footed (raiseCause_footed _ _ (takePending_footed kept))
        (ite_footed (raiseCause_footed _ _ kept) (runStage_footed (raiseCause_footed _ _ kept)))

end State
end Sys2Proof.Machine
end

section
/-! ## The footing in walking, placing and reseating -/

namespace Sys2Proof.Machine

namespace State

variable {s s₀ : State}

theorem reseatNext_footed (h : Footed s₀ s) : Footed s₀ s.reseatNext := by
  unfold reseatNext
  dsimp only
  split
  · exact h.frame rfl
  · exact bodySettled_footed _ (h.frame (reseatCheck_footing _ _))

theorem stageLegDone_footed (f : Bool) (h : Footed s₀ s) : Footed s₀ (s.stageLegDone f) := by
  have idle : Footed s₀ s.idlePhase := h.frame rfl
  unfold stageLegDone
  dsimp only
  split
  · exact h
  · split
    · split
      · exact h.frame rfl
      · exact ite_footed (stageFailed_footed (h.frame rfl)) (stageDone_footed (h.frame rfl))
    · exact ite_footed (stageFailed_footed idle) (stageDone_footed idle)

theorem shiftFailed_footed (c : FaultCode) (l : Leg) (h : Footed s₀ s) : Footed s₀ (s.shiftFailed c l) := by
  have noted : Footed s₀ (s.postFault c (some l)) := h.frame (by simp)
  unfold shiftFailed
  dsimp only
  split
  · exact stageLegDone_footed _ noted
  · exact bodySettled_footed _ (noted.frame (by simp))
  · exact bodySettled_footed _ (noted.frame (by simp))

theorem liftTo_footed (l : Leg) (p : Point) (h : Footed s₀ s) : Footed s₀ (s.liftTo l p) :=
  stanceUpdate_footed ((airCmd_sampling ..).trans h.sampling)

theorem liftStride_footed (l : Leg) (h : Footed s₀ s) : Footed s₀ (s.liftStride l) :=
  ite_footed (liftTo_footed _ _ (h.frame rfl)) h

theorem liftReseat_footed (l : Leg) (h : Footed s₀ s) : Footed s₀ (s.liftReseat l) := ite_footed (liftTo_footed _ _ h) h

@[simp] theorem beginPropel_footing (s : State) : s.beginPropel.footing = s.footing := by
  unfold beginPropel
  dsimp only
  rw [moveStance_footing]
  rfl

@[simp] theorem postHoldFaults_footing (s : State) : s.postHoldFaults.footing = s.footing := by
  unfold postHoldFaults
  dsimp only
  split <;> split <;> simp

@[simp] theorem endByStop_footing (s : State) (r : BodyReason) : (s.endByStop r).footing = s.footing := by
  unfold endByStop
  exact (walkOver_footing _ _).trans (postStride_footing s)

theorem stopAtBoundary_footed (b : Boundary) (h : Footed s₀ s) : Footed s₀ (s.stopAtBoundary b) := by
  unfold stopAtBoundary
  dsimp only
  refine takePending_footed (bodySettled_footed _ (h.frame ?_))
  split
  · split <;> simp
  · exact endByStop_footing _ _

theorem holdAtBoundary_footed (b : Boundary) (h : Footed s₀ s) : Footed s₀ (s.holdAtBoundary b) := by
  unfold holdAtBoundary
  dsimp only
  refine bodySettled_footed _ (h.frame ?_)
  split <;> simp

@[simp] theorem beginPause_footing (s : State) : s.beginPause.footing = s.footing := rfl

theorem goOn_footed (b : Boundary) (h : Footed s₀ s) : Footed s₀ (s.goOn b) := by
  cases b with
  | lift =>
    unfold goOn
    dsimp only
    split
    · exact liftStride_footed _ h
    · exact h
  | placed => exact h.frame (beginPropel_footing s)
  | propel ended =>
    exact ite_footed (ite_footed (h.frame (beginPause_footing s)) (h.frame (beginStride_footing s)))
      (h.frame (beginStepShift_footing ..))
  | pause => exact h.frame (beginStride_footing s)

@[simp] theorem enablesAtBoundary_footing (s : State) : s.enablesAtBoundary.footing = s.footing := by
  unfold enablesAtBoundary
  split <;> rfl

theorem boundary_footed (b : Boundary) (h : Footed s₀ s) : Footed s₀ (s.boundary b) := by
  have enabled : Footed s₀ s.enablesAtBoundary := h.frame (by simp)
  rw [boundary_eq]
  exact ite_footed (stopAtBoundary_footed _ h) (ite_footed (takePending_footed enabled)
    (ite_footed (holdAtBoundary_footed _ enabled) (goOn_footed _ enabled)))

theorem boundaryFailed_footed (h : Footed s₀ s) : Footed s₀ s.boundaryFailed := by
  have enabled : Footed s₀ s.enablesAtBoundary := h.frame (by simp)
  rw [boundaryFailed_eq]
  exact ite_footed (stopAtBoundary_footed _ h)
    (ite_footed (takePending_footed enabled) (holdAtBoundary_footed _ enabled))

@[simp] theorem applySway_footing (s : State) (d : Pair) : (s.applySway d).footing = s.footing := by
  have moved := moveStance_footing s fun p => { p with x := p.x - d.x, y := p.y - d.y }
  unfold applySway
  dsimp only
  generalize s.moveStance _ = q at moved ⊢
  exact moved

theorem swayOrLift_footed (l : Leg) (h : Footed s₀ s) : Footed s₀ (s.swayOrLift l) := by
  have asked : Footed s₀ (s.recordPredicted l) := h.frame rfl
  unfold swayOrLift
  dsimp only
  split
  · split
    · exact boundary_footed _ asked
    · exact liftReseat_footed _ asked
  · exact ite_footed (shiftFailed_footed _ _ asked) (asked.frame (by simp))

theorem swayEvent_footed (h : Footed s₀ s) : Footed s₀ s.swayEvent := by
  unfold swayEvent
  split
  · exact ite_footed (swayOrLift_footed _ h) h
  · exact h

/-! ### Placements -/

theorem lowerAgain_footed (l : Leg) (h : Footed s₀ s) : Footed s₀ (s.lowerAgain l) :=
  stanceUpdate_footed ((airCmd_sampling ..).trans h.sampling)

theorem placedVerified_footed (h : Footed s₀ s) : Footed s₀ s.placedVerified := by
  unfold placedVerified
  split
  · exact stageLegDone_footed _ h
  · exact reseatNext_footed h
  · exact boundary_footed _ h

theorem placeVerified_footed (l : Leg) (h : Footed s₀ s) : Footed s₀ (s.placeVerified l) := by
  unfold placeVerified
  extract_lets _ _ commanded stood consumed noted _ tested
  have standing : Footed s₀ stood := stanceUpdateWith_footed (fun _ hu => hu) ((setCmd_sampling ..).trans h.sampling)
  have consumes : Footed s₀ consumed := ite_footed (standing.frame rfl) standing
  have kept : Footed s₀ tested := tipTest_footed (consumes.frame (postNote_footing _ _))
  exact ite_footed (placedVerified_footed kept) kept

theorem placeExhausted_footed (l : Leg) (h : Footed s₀ s) : Footed s₀ (s.placeExhausted l) := by
  unfold placeExhausted
  extract_lets crouch owner discarded left fallen _ ended updated tell
  have kept : Footed s₀ updated := by
    have discards : discarded.sampling = s.sampling := by
      unfold discarded
      split <;> rfl
    have leaves : left.sampling = discarded.sampling := by simp [left, sampling, leaveInPlacing_scu]
    exact stanceUpdate_footed ((leaves.trans discards).trans h.sampling)
  have raised := raiseCause_footed .placeFail l kept
  clear_value owner
  split
  · exact ite_footed (stageLegDone_footed _ kept) kept
  · exact ite_footed raised (ite_footed (reseatNext_footed raised) raised)
  · exact ite_footed raised (ite_footed (boundaryFailed_footed raised) raised)

theorem placeUnverified_footed (l : Leg) (h : Footed s₀ s) : Footed s₀ (s.placeUnverified l) :=
  ite_footed (stanceUpdate_footed ((airCmd_sampling ..).trans h.sampling)) (placeExhausted_footed _ h)

theorem placeReport_footed (l : Leg) (r : Report) (h : Footed s₀ s) : Footed s₀ (s.placeReport l r) := by
  unfold placeReport
  split
  · exact ite_footed (ite_footed (placeVerified_footed _ h) (placeUnverified_footed _ h)) h
  · exact ite_footed (lowerAgain_footed _ h) h

theorem beginPlace_footed (l : Leg) (h : Footed s₀ s) : Footed s₀ (s.beginPlace l) :=
  beginPlacement_footed _ _ _ _ (h.frame rfl)

theorem swingTimedOut_footed (l : Leg) (h : Footed s₀ s) : Footed s₀ (s.swingTimedOut l) :=
  ite_footed (raiseCause_footed _ _ h) (beginPlace_footed _ (raiseCause_footed _ _ h))

theorem propelComplete_footed (h : Footed s₀ s) : Footed s₀ s.propelComplete := by
  unfold propelComplete
  extract_lets odometer _ looked _ returned
  have kept : Footed s₀ returned := h.frame (zoneLookup_footing _ _)
  exact ite_footed (bodySettled_footed _ (kept.frame (by simp)))
    (boundary_footed _ (kept.frame (endStep_footing returned)))

theorem propelStalled_footed (h : Footed s₀ s) : Footed s₀ s.propelStalled := by
  unfold propelStalled
  dsimp only
  refine bodySettled_footed _ (h.frame ?_)
  split_ifs <;> simp

theorem settleWaiters_footed (h : Footed s₀ s) : Footed s₀ s.settleWaiters := by
  unfold settleWaiters
  split
  · split
    · exact propelComplete_footed h
    · exact ite_footed (stageDone_footed h) h
    · exact h
  · exact h

/-- R27: so does a change of the stance set with the operations that wait for one. -/
theorem stanceChange_footed (h : s.sampling = s₀.sampling) : Footed s₀ s.stanceChange := by
  unfold stanceChange
  split
  · rename_i hs
    exact ⟨h, fun _ => hs⟩
  · exact settleWaiters_footed (stanceUpdate_footed h)

/-! ### Reports -/

@[simp] theorem steadyReport_footing (s : State) (l : Leg) (r : Report) : (s.steadyReport l r).footing = s.footing := by
  unfold steadyReport
  dsimp only
  split <;> rfl

@[simp] theorem recordDeviation_footing (s : State) (l : Leg) (d : Nat) :
    (s.recordDeviation l d).footing = s.footing := by
  unfold recordDeviation
  dsimp only
  split <;> rfl

theorem decideSlip_footed (l : Leg) (d : Nat) (h : Footed s₀ s) : Footed s₀ (s.decideSlip l d) := by
  unfold decideSlip
  exact ite_footed (ite_footed (h.frame rfl) (raiseCause_footed _ _ (h.frame rfl)))
    (h.frame (endSlip_footing _ _))

theorem unload_footed (l : Leg) (h : Footed s₀ s) : Footed s₀ (s.unload l) :=
  raiseCause_footed _ _ (stanceChange_footed h.sampling)

theorem stanceReport_footed (l : Leg) (r : Report) (h : Footed s₀ s) : Footed s₀ (s.stanceReport l r) := by
  unfold stanceReport
  exact ite_footed (unload_footed _ h)
    (ite_footed (decideSlip_footed _ _ (h.frame (recordDeviation_footing _ _ _))) (h.frame rfl))

theorem slipReport_footed (l : Leg) (r : Report) (h : Footed s₀ s) : Footed s₀ (s.slipReport l r) := by
  unfold slipReport
  extract_lets steadied
  have kept : Footed s₀ steadied := ite_footed h (h.frame (by simp))
  exact ite_footed (stanceReport_footed _ _ kept) kept

end State
end Sys2Proof.Machine
end

section
/-! ## The footing in rising, lowering and the leg links -/

namespace Sys2Proof.Machine

namespace State

variable {s s₀ : State}

@[simp] theorem markRise_sampling (s : State) : s.markRise.sampling = s.sampling := rfl

@[simp] theorem markLowering_sampling (s : State) : s.markLowering.sampling = s.sampling := rfl

theorem setBody_sampling (s : State) (b : BodyState) (r : BodyReason) : (s.setBody b r).sampling = s.sampling :=
  congrArg Footing.sampling (setBody_footing s b r)

theorem standAll_sampling (target : State → Leg → Point) (s : State) : (s.standAll target).sampling = s.sampling :=
  standAll_keeps sampling (fun _ _ _ _ => setCmd_sampling ..) target s

theorem beginRise_footed (h : Footed s₀ s) : Footed s₀ s.beginRise := by
  rw [beginRise_eq]
  refine stanceUpdate_footed ?_
  rw [standAll_sampling, markRise_sampling, setBody_sampling]
  exact h.sampling

theorem beginLowering_footed (r : BodyReason) (h : Footed s₀ s) : Footed s₀ (s.beginLowering r) := by
  rw [beginLowering_eq]
  refine stanceUpdate_footed ?_
  rw [markLowering_sampling, standAll_sampling, setBody_sampling]
  exact h.sampling

theorem endLowering_footed (r : BodyReason) (h : Footed s₀ s) : Footed s₀ (s.endLowering r) := by
  have laid : s.laidDown.sampling = s.sampling := by simp [sampling, laidDown]
  rw [endLowering_eq]
  exact (stanceUpdate_footed (laid.trans h.sampling)).frame (by simp)

theorem riseReport_footed (l : Leg) (h : Footed s₀ s) : Footed s₀ (s.riseReport l) := by
  unfold riseReport
  extract_lets _ reported _ stopped verified updated
  have flags : verified.sampling = stopped.sampling := foldl_keeps sampling (fun s l => by split <;> rfl) _ _
  have kept : Footed s₀ updated := stanceUpdate_footed (flags.trans h.sampling)
  exact ite_footed (bodySettled_footed _ (kept.frame (by simp))) (h.frame rfl)

theorem lowerReport_footed (h : Footed s₀ s) : Footed s₀ s.lowerReport := ite_footed (endLowering_footed _ h) h

theorem endSurvey_footed (h : Footed s₀ s) : Footed s₀ s.endSurvey := tipTest_footed (h.frame rfl)

theorem firstReport_footed (l : Leg) (r : Report) (h : Footed s₀ s) : Footed s₀ (s.firstReport l r) := by
  unfold firstReport
  extract_lets _ noted stood taken
  have hn : Footed s₀ noted := h.frame rfl
  have kept : Footed s₀ taken := by
    unfold taken
    split
    · split
      · exact hn
      · exact stanceChange_footed ((setCmd_sampling ..).trans hn.sampling)
      · refine stanceChange_footed ?_
        have commanded : stood.sampling = s₀.sampling := (setCmd_sampling ..).trans hn.sampling
        split
        · exact commanded
        · exact commanded
    · exact hn
  exact ite_footed (endSurvey_footed kept) kept

theorem calibEnd_footed (l : Leg) (h : Footed s₀ s) : Footed s₀ (s.calibEnd l) :=
  stanceUpdate_footed ((setCmd_sampling ..).trans h.sampling)

theorem calibFail_footed (l : Leg) (h : Footed s₀ s) : Footed s₀ (s.calibFail l) :=
  (calibEnd_footed l h).frame (postFault_footing _ _ _)

@[simp] theorem calibReport_footing (s : State) (l : Leg) (r : Report) : (s.calibReport l r).footing = s.footing := by
  unfold calibReport
  split
  · split
    · exact footing_of_link l
    · rfl
  · split
    · exact footing_of_link l
    · rfl
  · rfl

theorem waitingReport_footed (l : Leg) (r : Report) (w : Waiting) (h : Footed s₀ s) :
    Footed s₀ (s.waitingReport l r w) := by
  cases w with
  | crouch => exact ite_footed (h.frame (postNote_footing _ _)) h
  | lift => exact ite_footed (stageDone_footed h) h
  | swing => exact ite_footed (beginPlace_footed _ h) h
  | placement => exact placeReport_footed _ _ h
  | settle => exact settleWaiters_footed h
  | nothing => exact h

theorem operationReport_footed (l : Leg) (r : Report) (h : Footed s₀ s) : Footed s₀ (s.operationReport l r) := by
  unfold operationReport
  extract_lets waiting first calibrated
  have taken : Footed s₀ first := ite_footed (firstReport_footed _ _ h) h
  have kept : Footed s₀ calibrated := taken.frame (calibReport_footing _ _ _)
  split
  · exact ite_footed (riseReport_footed _ kept) kept
  · exact ite_footed (lowerReport_footed kept) kept
  · exact waitingReport_footed _ _ _ kept

theorem obstructFlag_footed (l : Leg) (r : Report) (h : Footed s₀ s) : Footed s₀ (s.obstructFlag l r) :=
  ite_footed (ite_footed (raiseCause_footed _ _ (h.frame (footing_of_link l))) h) (h.frame (footing_of_link l))

theorem overloadFlag_footed (l : Leg) (r : Report) (h : Footed s₀ s) : Footed s₀ (s.overloadFlag l r) :=
  ite_footed (ite_footed (raiseCause_footed _ _ (h.frame (footing_of_link l))) h) (h.frame (endOverload_footing _ _))

@[simp] theorem thermalReport_footing (s : State) (l : Leg) (t : Int) : (s.thermalReport l t).footing = s.footing :=
  footing_of_blocks (by simp) (by simp) (by simp) (by simp)

/-- R165: a taken report begins with a change of the stance set, so its link need only have kept the samples. -/
theorem takeReport_footed (l : Leg) (r : Report) (h : s.sampling = s₀.sampling) : Footed s₀ (s.takeReport l r) := by
  unfold takeReport
  extract_lets reported changed warmed slipped recomputed done
  have hc : Footed s₀ changed := stanceChange_footed h
  have hs : Footed s₀ slipped := slipReport_footed _ _ (hc.frame (thermalReport_footing _ _ _))
  have hr : Footed s₀ recomputed := ite_footed (recomputeTest_footed hs) hs
  exact overloadFlag_footed _ _ (obstructFlag_footed _ _ (operationReport_footed _ _ hr))

theorem goodReport_footed (l : Leg) (r : Report) (h : Footed s₀ s) : Footed s₀ (s.goodReport l r) := by
  unfold goodReport
  extract_lets sounded k
  have sound : Footed s₀ sounded := h.frame (footing_of_link l)
  clear_value sounded
  split
  · split
    · exact sound.frame (footing_of_set l)
    · refine takeReport_footed _ _ ?_
      exact (congrArg Footing.sampling (postNote_footing _ _)).trans sound.sampling
  · exact takeReport_footed _ _ sound.sampling

theorem linkLost_footed (l : Leg) (h : s.sampling = s₀.sampling) : Footed s₀ (s.linkLost l) := by
  unfold linkLost
  extract_lets _ _ lost changed ended calibrated noted
  have hc : Footed s₀ changed := stanceChange_footed h
  have he : Footed s₀ ended := hc.frame (endOverload_footing _ _)
  have hk : Footed s₀ calibrated := ite_footed he (calibFail_footed _ he)
  exact raiseCause_footed _ _ (hk.frame (postNote_footing _ _))

theorem missReport_footed (l : Leg) (h : Footed s₀ s) : Footed s₀ (s.missReport l) := by
  unfold missReport
  dsimp only
  split
  · exact h.frame (footing_of_set l)
  · exact ite_footed (linkLost_footed _ h.sampling) (h.frame (footing_of_set l))

theorem faultReport_footed (l : Leg) (h : Footed s₀ s) : Footed s₀ (s.faultReport l) :=
  missReport_footed _ (ite_footed h (h.frame ((postNote_footing _ _).trans (footing_of_link l))))

theorem judgeRecord_footed (l : Leg) (b : List Byte) (h : Footed s₀ s) : Footed s₀ (s.judgeRecord l b) := by
  unfold judgeRecord
  split
  · exact missReport_footed _ h
  · exact faultReport_footed _ h
  · exact goodReport_footed _ _ h

end State
end Sys2Proof.Machine
end

section
/-! ## The footing in messages, on the host link and over a whole command -/

namespace Sys2Proof.Machine

namespace State

variable {s s₀ : State}

theorem doRise_footed (h : Footed s₀ s) : Footed s₀ s.doRise.state := by
  rcases doRise_cases s with ⟨st, e⟩ | ⟨-, -, -, e⟩ <;> rw [e]
  · exact h
  · exact beginRise_footed h

theorem doSettle_footed (h : Footed s₀ s) : Footed s₀ s.doSettle.state := by
  unfold doSettle
  split
  case h_6 =>
    split
    · exact h
    · exact beginLowering_footed _ h
  all_goals exact h

/-! ### Walking -/

theorem beginWalk_footed (n : Nat) (d : Direction) (h : Footed s₀ s) : Footed s₀ (s.beginWalk n d) :=
  bodySettled_footed _ (h.frame ((beginStride_footing _).trans (setBody_footing _ _ _)))

theorem doStride_footed (n d : Option Byte) (h : Footed s₀ s) : Footed s₀ (s.doStride n d).state := by
  unfold doStride
  split
  · exact h
  · split
    case h_3 =>
      split
      · exact h
      · split
        · split_ifs
          · exact h
          · exact h
          · exact h
          · exact h
          · exact h
          · exact h
          · exact beginWalk_footed _ _ h
          · exact beginWalk_footed _ _ h
        · exact h
    all_goals exact h

theorem stopWalk_footed (h : Footed s₀ s) : Footed s₀ s.stopWalk := by
  unfold stopWalk
  split
  case h_4 => exact bodySettled_footed _ (h.frame (by simp))
  all_goals exact h.frame rfl

theorem stopHold_footed (h : Footed s₀ s) : Footed s₀ s.stopHold :=
  bodySettled_footed _ (h.frame ((setBody_footing _ _ _).trans (postStride_footing s)))

theorem doStop_footed (h : Footed s₀ s) : Footed s₀ s.doStop.state := by
  unfold doStop
  split
  · exact h
  · split
    · exact stopWalk_footed h
    · split
      · exact h
      · exact stopHold_footed h
    all_goals exact h

theorem continueAt_footed (n : NextStep) (h : Footed s₀ s) : Footed s₀ (s.continueAt n) :=
  bodySettled_footed _ (h.frame ((beginStepShift_footing _ _ _).trans (setBody_footing s _ _)))

theorem doContinue_footed (h : Footed s₀ s) : Footed s₀ s.doContinue.state := by
  unfold doContinue
  split
  · exact h
  · split
    case h_3 =>
      split_ifs
      · exact h
      · exact h
      · exact h
      · exact h
      · exact h
      · split
        · exact h
        · exact h
      · split
        · exact continueAt_footed _ h
        · exact h
    all_goals exact h

theorem doReseat_footed (h : Footed s₀ s) : Footed s₀ s.doReseat.state := by
  unfold doReseat
  split
  · exact h
  · split
    case h_6 =>
      split
      · exact h
      · exact bodySettled_footed _ (h.frame (by simp))
    all_goals exact h

/-! ### Legs, footholds and reflexes -/

theorem doCalibrate_footed (b : Option Byte) (h : Footed s₀ s) : Footed s₀ (s.doCalibrate b).state := by
  unfold doCalibrate
  split
  · exact h
  · split
    · exact h
    · split
      · exact h
      · split
        case h_3 =>
          split_ifs
          · exact h
          · exact h
          · exact stanceUpdate_footed ((setCmd_sampling ..).trans h.sampling)
        all_goals exact h

theorem withdraw_footed (l : Leg) (h : Footed s₀ s) : Footed s₀ (s.withdraw l) :=
  stanceUpdate_footed ((show _ = s.sampling by simp [sampling]).trans h.sampling)

theorem doWithdraw_footed (b : Option Byte) (h : Footed s₀ s) : Footed s₀ (s.doWithdraw b).state := by
  unfold doWithdraw
  split
  · exact h
  · split
    · exact h
    · split
      · exact h
      · split
        · exact h
        · exact h
        · split_ifs
          · exact h
          · exact h
          · exact withdraw_footed _ h
        · split_ifs
          · exact h
          · exact h
          · exact h.frame rfl
          · exact withdraw_footed _ (h.frame rfl)
        · exact h

theorem admitAgain_footed (l : Leg) (h : Footed s₀ s) : Footed s₀ (s.admitAgain l) := by
  unfold admitAgain
  extract_lets marked updated
  have kept : Footed s₀ updated := stanceUpdate_footed ((congrArg Footing.sampling (postNote_footing _ _)).trans h.sampling)
  split
  · exact bodySettled_footed _ (kept.frame (by simp))
  · exact kept

theorem doAdmit_footed (b : Option Byte) (h : Footed s₀ s) : Footed s₀ (s.doAdmit b).state := by
  unfold doAdmit
  split
  · exact h
  · split
    · exact h
    · split
      · exact h
      · exact h
      · split_ifs
        · exact h
        · exact h
        · exact admitAgain_footed _ h
      · split_ifs
        · exact h
        · exact h
        · exact h
        · exact admitAgain_footed _ h
      · exact h

@[simp] theorem doPlan_footing (s : State) (l n : Option Byte) (b : List Byte) :
    (s.doPlan l n b).state.footing = s.footing := by
  unfold doPlan
  dsimp only
  repeat' split
  all_goals rfl

@[simp] theorem doUnplan_footing (s : State) (l t : Option Byte) : (s.doUnplan l t).state.footing = s.footing := by
  unfold doUnplan
  dsimp only
  repeat' split
  all_goals rfl

@[simp] theorem doUnplanAll_footing (s : State) (l : Option Byte) : (s.doUnplanAll l).state.footing = s.footing := by
  unfold doUnplanAll
  repeat' split
  all_goals rfl

@[simp] theorem doSwap_footing (s : State) (l : Option Byte) (b : List Byte) :
    (s.doSwap l b).state.footing = s.footing := by
  unfold doSwap
  repeat' split
  all_goals rfl

theorem doReflexesOn_footed (h : Footed s₀ s) : Footed s₀ s.doReflexesOn.state := by
  unfold doReflexesOn reflexesOn
  split
  · exact h
  · dsimp only [reply]
    split
    · exact h.frame rfl
    · split
      case h_3 => exact enableRise_footed (h.frame rfl)
      all_goals exact h.frame rfl

@[simp] theorem doReflexesOff_footing (s : State) : s.doReflexesOff.state.footing = s.footing := by
  unfold doReflexesOff
  split <;> rfl

@[simp] theorem resumeBottom_footing (s : State) (c : Context) : (s.resumeBottom c).footing = s.footing := by
  unfold resumeBottom
  split
  · exact resumeAsHold_footing _ _ _ _ _
  · exact setBody_footing _ _ _
  · exact setBody_footing _ _ _
  · exact setBody_footing _ _ _
  · refine (setBody_footing _ _ _).trans ?_
    dsimp only
    split
    · exact postStride_footing _
    · rfl
  · exact setBody_footing _ _ _
  · rfl

theorem resumeBody_footed (h : Footed s₀ s) : Footed s₀ s.resumeBody := by
  unfold resumeBody
  dsimp only
  refine takePending_footed (bodySettled_footed _ (h.frame ((postNote_footing _ _).trans ?_)))
  split
  · exact resumeBottom_footing _ _
  · rfl

theorem doResume_footed (h : Footed s₀ s) : Footed s₀ s.doResume.state := by
  unfold doResume
  split
  · exact h
  · split
    case h_3 =>
      split
      · exact resumeBody_footed h
      · exact h
    all_goals exact h

/-! ### Items -/

@[simp] theorem tellGeometry_footing (s : State) (b : List Byte) : (s.tellGeometry b).state.footing = s.footing := by
  unfold tellGeometry
  repeat' split
  all_goals rfl

@[simp] theorem tellOdometer_footing (s : State) (v : Int) : (s.tellOdometer v).state.footing = s.footing := by
  unfold tellOdometer
  split_ifs
  · rfl
  · exact zoneLookup_footing _ _
  · rfl

@[simp] theorem tellZone_footing (s : State) (i : Nat) (b : List Byte) : (s.tellZone i b).state.footing = s.footing := by
  unfold tellZone
  repeat' split
  case h_2.isFalse.isFalse => exact zoneLookup_footing _ _
  all_goals rfl

@[simp] theorem tellReflexItem_footing (s : State) (c : Nat) (l : Leg) (v : Option (Nat × Nat)) :
    (s.tellReflexItem c l v).state.footing = s.footing := by
  unfold tellReflexItem
  repeat' split
  all_goals rfl

@[simp] theorem tellWindow_footing (s : State) (l : Leg) (b : List Byte) :
    (s.tellWindow l b).state.footing = s.footing := by
  unfold tellWindow
  repeat' split
  all_goals rfl

@[simp] theorem tellMask_footing (s : State) (b : List Byte) : (s.tellMask b).state.footing = s.footing := by
  unfold tellMask
  split <;> rfl

@[simp] theorem tellDiscard_footing (s : State) (u : Nat) : (s.tellDiscard u).state.footing = s.footing := by
  unfold tellDiscard
  repeat' split
  all_goals rfl

@[simp] theorem doTell_footing (s : State) (u i : Nat) (b : List Byte) : (s.doTell u i b).state.footing = s.footing := by
  unfold doTell
  repeat' split
  all_goals simp

/-! ### Frames, answers and the line -/

theorem judgeDo_footed (a : Nat) (b : List Byte) (h : Footed s₀ s) : Footed s₀ (s.judgeDo a b).state := by
  unfold judgeDo
  split
  · exact doRise_footed h
  · exact doSettle_footed h
  · exact doStride_footed _ _ h
  · exact doStop_footed h
  · exact doContinue_footed h
  · exact doReseat_footed h
  · exact doCalibrate_footed _ h
  · exact doWithdraw_footed _ h
  · exact doAdmit_footed _ h
  · exact h.frame (doPlan_footing ..)
  · split
    · exact h.frame (doUnplan_footing ..)
    · exact h.frame (doUnplanAll_footing ..)
    · exact h.frame (doUnplan_footing ..)
  · exact h.frame (doSwap_footing ..)
  · split
    · exact doReflexesOn_footed h
    · exact h.frame (doReflexesOff_footing s)
    · split <;> exact h
  · exact doResume_footed h
  · exact h.frame rfl
  · exact h

theorem judgeFrame_footed (f : Frame) (h : Footed s₀ s) : Footed s₀ (s.judgeFrame f).state := by
  unfold judgeFrame
  split
  · rwa [doAsk_state]
  · exact h.frame (doTell_footing ..)
  · exact judgeDo_footed _ _ h
  · exact h

theorem takeFrame_footed (h : Footed s₀ s) : Footed s₀ s.takeFrame := by
  unfold takeFrame
  split
  · split
    · rename_i f rest _
      exact (judgeFrame_footed (s := { s with hli.input := rest }) f (h.frame rfl)).frame rfl
    · exact h
  · exact h

/-- R191: a message in which the footing is kept keeps it with its ANSWER. -/
theorem respond_footed (q : Byte) {f : State → Reply} (hf : Footed s (f s).state) : Footed s (s.respond q f) :=
  ite_footed (hf.frame rfl) (.refl s)

theorem acceptFrame_footed (f : Frame) (h : Footed s₀ s) : Footed s₀ (s.acceptFrame f) :=
  ite_footed (takeFrame_footed (h.frame rfl)) (h.frame (by simp))

theorem frameComplete_footed (b : List Byte) (h : Footed s₀ s) : Footed s₀ (s.frameComplete b) := by
  unfold frameComplete
  dsimp only
  split
  · exact acceptFrame_footed _ (h.frame rfl)
  · exact h.frame rfl

theorem receiveByte_footed (b : Byte) (h : Footed s₀ s) : Footed s₀ (s.receiveByte b) := by
  unfold receiveByte
  split
  · exact h
  · split
    · exact ite_footed (h.frame rfl) h
    · exact ite_footed (h.frame rfl) (ite_footed (frameComplete_footed _ h) (h.frame rfl))

@[simp] theorem dropFrame_footing (s : State) : s.dropFrame.footing = s.footing := by
  unfold dropFrame
  split <;> rfl

@[simp] theorem lock_footing (s : State) (r : BitRate) : (s.lock r).footing = s.footing := by
  unfold lock
  dsimp only
  split
  · exact postNote_footing _ _
  · rfl

@[simp] theorem lowRun_footing (s : State) (n : Nat) : (s.lowRun n).footing = s.footing := by
  unfold lowRun
  split
  · rfl
  · split
    · rfl
    · split
      · exact lock_footing _ _
      · rfl

@[simp] theorem transmitStart_footing (s : State) : s.transmitStart.footing = s.footing := by
  unfold transmitStart
  split <;> rfl

@[simp] theorem setExternal_footing (s : State) (b : Bool) : (s.setExternal b).footing = s.footing := by
  unfold setExternal
  split
  · rfl
  · exact footing_of_blocks (by simp) (by simp) (by simp) (by simp)

@[simp] theorem sense_footing (s : State) (b : Bool) : (s.sense b).footing = s.footing := by
  unfold sense
  extract_lets run _ sensed
  split
  · exact setExternal_footing _ _
  · rfl

@[simp] theorem levelFall_footing (s : State) (l : Leg) : (s.levelFall l).footing = s.footing :=
  footing_of_blocks (by simp) (by simp) (by simp) (by simp)

end State
end Sys2Proof.Machine
end

section
/-! ## O5: the stance set over a whole command (R27, R47) -/

namespace Sys2Proof.Machine

/-- The commands of the attitude port: those that write what samples alone write (R21 to R25). -/
def AttitudeEvent (c : Instr) : Prop :=
  c = .attitudeDataReady ∨ c = .staleTimeout ∨ c = .tipStaleTimeout ∨ ∃ v, c = .sampleRead v

namespace State

variable {s t : State}

theorem Footed.keeps (h : Footed s t) (hs : StanceSetCurrent s) : StanceSetCurrent t :=
  stanceSetCurrent_iff.mpr (h.current (stanceSetCurrent_iff.mp hs))

/-- R15, R20: a reset leaves no leg in STANCE, and an empty stance set. -/
theorem stanceSetCurrent_of_none (hm : ∀ l, s.modeOf l ≠ .stance) (hs : ∀ l, s.inStance l = false) :
    StanceSetCurrent s :=
  fun l => by simp [hm l, hs l]

theorem powerUp_current (s : State) : StanceSetCurrent s.powerUp :=
  stanceSetCurrent_of_none (fun l => by cases l <;> exact LegMode.noConfusion) (fun l => by cases l <;> rfl)

theorem warmReset_current (s : State) : StanceSetCurrent s.warmReset := by
  refine stanceSetCurrent_of_none (fun l => ?_) (fun l => by cases l <;> rfl)
  have commanded : s.warmReset.modeOf l = if s.pc.postureSafe then .limp else .hold := by
    cases hs : s.pc.postureSafe <;> simp [warmReset, LegCmd.afterReset, hs]
  rw [commanded]
  split <;> decide

/-- R15, R20, R193: a command that resets leaves a reset state, or does nothing where no answer is sent, or no frame. -/
theorem reset_current {c : Instr} (hr : Resets c s) (hs : StanceSetCurrent s) (e : exec c s = .next t) :
    StanceSetCurrent t := by
  rcases hr with rfl | rfl | ⟨rfl | rfl, reset⟩ <;> obtain rfl := Host.Outcome.next.inj e
  · exact powerUp_current s
  · exact warmReset_current s
  · unfold transmitDone
    split
    · exact hs
    · exact hs
    · rw [if_pos reset]
      exact warmReset_current s
  · split
    · rw [enterSync, if_pos reset]
      exact warmReset_current s
    · exact hs

theorem tick_current (h : StanceSetCurrent s) : StanceSetCurrent s.tick := fun l => by cases l <;> exact h _

/-- R22 to R26: a sample writes its own share, and the event goes on from there. -/
theorem sampleRead_current (v : Option Sample) (h : StanceSetCurrent s) (e : exec (.sampleRead v) s = .next t) :
    StanceSetCurrent t := by
  obtain rfl := Host.Outcome.next.inj e
  split
  · split
    · rename_i v _
      exact (swayEvent_footed (recomputeTest_footed (.refl { s with
        atp := { s.atp with reading := false, slots := some (Slots.push s.atp.slots v), since := 0 },
        scu := { s.scu with dbar := (Slots.push s.atp.slots v).average, attStale := false, tipStale := false } }))).keeps h
    · exact h
  · exact h

theorem setStale_current (h : StanceSetCurrent s) : StanceSetCurrent s.setStale := by
  unfold setStale
  dsimp only
  split
  · exact h
  · exact Footed.keeps (s := { s with atp.since := max 20 s.atp.since, scu.attStale := true })
      ((Footed.refl _).frame (postFault_footing _ _ _)) h

theorem attitudeEvent_current {c : Instr} (ha : AttitudeEvent c) (hs : StanceSetCurrent s) (e : exec c s = .next t) :
    StanceSetCurrent t := by
  rcases ha with rfl | rfl | rfl | ⟨v, rfl⟩
  · obtain rfl := Host.Outcome.next.inj e
    split
    · exact hs
    · exact hs
  · obtain rfl := Host.Outcome.next.inj e
    exact setStale_current hs
  · obtain rfl := Host.Outcome.next.inj e
    exact (tipTest_footed (.refl { s.setStale with
      atp.since := max 200 s.setStale.atp.since, scu.tipStale := true })).keeps (setStale_current hs)
  · exact sampleRead_current v hs e

theorem transmitDone_footed (hr : s.hli.resetTaken = false) : Footed s s.transmitDone := by
  unfold transmitDone
  split
  · exact .refl s
  · exact (Footed.refl s).frame rfl
  · rw [if_neg (by simp [hr])]
    exact takeFrame_footed ((Footed.refl s).frame rfl)

end State

open State in
/-- R27: every command that is no reset, and none of the attitude port's, keeps the footing. -/
theorem exec_footed (c : Instr) (s : State) (hr : ¬ Resets c s) (ha : ¬ AttitudeEvent c) :
    ∃ t, exec c s = .next t ∧ Footed s t := by
  have refl := Footed.refl s
  have noReset : c = .transmitDone ∨ c = .hostLineBreak → s.hli.resetTaken = false := fun hc => by
    by_contra h
    exact hr (.inr (.inr ⟨hc, by simpa using h⟩))
  cases c with
  | powerUpReset => exact absurd (.inl rfl) hr
  | warmReset => exact absurd (.inr (.inl rfl)) hr
  | attitudeDataReady => exact absurd (.inl rfl) ha
  | staleTimeout => exact absurd (.inr (.inl rfl)) ha
  | tipStaleTimeout => exact absurd (.inr (.inr (.inl rfl))) ha
  | sampleRead v => exact absurd (.inr (.inr (.inr ⟨v, rfl⟩))) ha
  | hostLineBreak =>
    refine ⟨_, rfl, ?_⟩
    split
    · rw [enterSync, if_neg (by simp [noReset (.inr rfl)])]
      exact refl.frame rfl
    · exact refl
  | transmitDone => exact ⟨_, rfl, transmitDone_footed (noReset (.inl rfl))⟩
  | lowRunMeasured n => exact ⟨_, rfl, refl.frame (lowRun_footing ..)⟩
  | hostFrameComplete f =>
    refine ⟨_, rfl, ?_⟩
    split
    · exact frameComplete_footed _ refl
    · exact refl
  | hostFrameByteTimeout => exact ⟨_, rfl, refl.frame (dropFrame_footing s)⟩
  | hostByteFramingError => exact ⟨_, rfl, refl.frame (dropFrame_footing s)⟩
  | hostLineLow20Bits => exact ⟨_, rfl, refl.frame (dropFrame_footing s)⟩
  | hostByteReceived b => exact ⟨_, rfl, receiveByte_footed b refl⟩
  | takeFrame => exact ⟨_, rfl, takeFrame_footed refl⟩
  | transmitStart => exact ⟨_, rfl, refl.frame (transmitStart_footing s)⟩
  | ask q u i => exact ⟨_, rfl, respond_footed _ (by rwa [doAsk_state])⟩
  | tellReadOnly q u i => exact ⟨_, rfl, respond_footed _ (refl.frame (doTell_footing ..))⟩
  | tellGeometry q b => exact ⟨_, rfl, respond_footed _ (refl.frame (tellGeometry_footing ..))⟩
  | tellOdometer q v => exact ⟨_, rfl, respond_footed _ (refl.frame (tellOdometer_footing ..))⟩
  | tellZoneEntry q i b => exact ⟨_, rfl, respond_footed _ (refl.frame (tellZone_footing ..))⟩
  | tellReflexTable q c l k v => exact ⟨_, rfl, respond_footed _ (refl.frame (tellReflexItem_footing ..))⟩
  | tellSlipWindow q l b => exact ⟨_, rfl, respond_footed _ (refl.frame (tellWindow_footing ..))⟩
  | tellNoteMask q b => exact ⟨_, rfl, respond_footed _ (refl.frame (tellMask_footing ..))⟩
  | rise q => exact ⟨_, rfl, respond_footed _ (doRise_footed refl)⟩
  | settle q => exact ⟨_, rfl, respond_footed _ (doSettle_footed refl)⟩
  | stride q n d => exact ⟨_, rfl, respond_footed _ (doStride_footed _ _ refl)⟩
  | stop q => exact ⟨_, rfl, respond_footed _ (doStop_footed refl)⟩
  | continueWalk q => exact ⟨_, rfl, respond_footed _ (doContinue_footed refl)⟩
  | reseat q => exact ⟨_, rfl, respond_footed _ (doReseat_footed refl)⟩
  | calibrate q l => exact ⟨_, rfl, respond_footed _ (doCalibrate_footed _ refl)⟩
  | withdraw q l => exact ⟨_, rfl, respond_footed _ (doWithdraw_footed _ refl)⟩
  | admitLeg q l => exact ⟨_, rfl, respond_footed _ (doAdmit_footed _ refl)⟩
  | plan q l n b => exact ⟨_, rfl, respond_footed _ (refl.frame (doPlan_footing ..))⟩
  | unplan q l t => exact ⟨_, rfl, respond_footed _ (refl.frame (doUnplan_footing ..))⟩
  | unplanAll q l => exact ⟨_, rfl, respond_footed _ (refl.frame (doUnplanAll_footing ..))⟩
  | swap q l b => exact ⟨_, rfl, respond_footed _ (refl.frame (doSwap_footing ..))⟩
  | reflexesOn q => exact ⟨_, rfl, respond_footed _ (doReflexesOn_footed refl)⟩
  | reflexesOff q => exact ⟨_, rfl, respond_footed _ (refl.frame (doReflexesOff_footing s))⟩
  | resume q => exact ⟨_, rfl, respond_footed _ (doResume_footed refl)⟩
  | reset q => exact ⟨_, rfl, respond_footed _ (refl.frame rfl)⟩
  | surveyTimeout => exact ⟨_, rfl, ite_footed (endSurvey_footed refl) refl⟩
  | riseTimeout =>
    refine ⟨_, rfl, ?_⟩
    split
    · exact beginLowering_footed _ (refl.frame (postFault_footing ..))
    · exact refl
  | loweringTimeout =>
    refine ⟨_, rfl, ?_⟩
    split
    · exact endLowering_footed _ (refl.frame (postFault_footing ..))
    · exact refl
  | shiftStall =>
    refine ⟨_, rfl, ?_⟩
    split
    · exact ite_footed refl (shiftFailed_footed _ _ refl)
    · exact refl
  | swingTimeout =>
    refine ⟨_, rfl, ?_⟩
    split
    · exact ite_footed refl (swingTimedOut_footed _ refl)
    · exact refl
  | propelStall =>
    refine ⟨_, rfl, ?_⟩
    split
    · exact ite_footed refl (propelStalled_footed refl)
    · exact refl
  | pauseEnd =>
    refine ⟨_, rfl, ?_⟩
    split
    · exact ite_footed refl (boundary_footed _ refl)
    · exact refl
  | placeTimeout =>
    refine ⟨_, rfl, ?_⟩
    split
    · exact ite_footed refl (ite_footed (placeExhausted_footed _ refl) (placeUnverified_footed _ refl))
    · exact refl
  | reswingTimeout =>
    refine ⟨_, rfl, ?_⟩
    split
    · exact ite_footed refl (ite_footed (placeExhausted_footed _ refl)
        (ite_footed (raiseCause_footed _ _ refl) (lowerAgain_footed _ (raiseCause_footed _ _ refl))))
    · exact refl
  | steadyTimeout l => exact ⟨_, rfl, refl.frame rfl⟩
  | braceTimeout =>
    refine ⟨_, rfl, ?_⟩
    split
    · exact ite_footed (stageDone_footed refl) refl
    · exact refl
  | crouchTimeout =>
    have crouches : Footed s (s.crouched .timeout) := refl.frame (postNote_footing _ _)
    exact ⟨_, rfl, ite_footed (ite_footed (setProtect_footed crouches) crouches) refl⟩
  | retractLiftTimeout =>
    refine ⟨_, rfl, ?_⟩
    split
    · exact ite_footed (liftTimedOut_footed refl) refl
    · exact refl
  | legRefreshDue l => exact ⟨_, rfl, ite_footed (refl.frame (handToLink_footing s l)) refl⟩
  | legCommandSend l => exact ⟨_, rfl, refl.frame (handToLink_footing s l)⟩
  | legReportArrival l b =>
    exact ⟨_, rfl, ite_footed ((judgeRecord_footed _ _ refl).frame (endExchange_footing _ _)) refl⟩
  | legReportTimeout l =>
    exact ⟨_, rfl, ite_footed ((missReport_footed _ refl).frame (endExchange_footing _ _)) refl⟩
  | calibTimeout l =>
    refine ⟨_, rfl, ?_⟩
    split
    · exact calibFail_footed _ refl
    · exact calibFail_footed _ refl
    · exact refl
  | calibSettleEnd l =>
    refine ⟨_, rfl, ?_⟩
    split
    · exact (calibEnd_footed _ (refl.frame (footing_of_link l))).frame (postNote_footing _ _)
    · exact refl
  | holdTimerExpiry l =>
    exact ⟨_, rfl, ite_footed (ite_footed (refl.frame (levelFall_footing _ l)) (refl.frame rfl)) refl⟩
  | hotzSense b =>
    refine ⟨_, rfl, ?_⟩
    split
    · exact refl.frame (sense_footing s b)
    · exact refl
  | hotzDriveWindow => exact ⟨_, rfl, refl.frame rfl⟩
  | driveWindowEnd => exact ⟨_, rfl, refl.frame rfl⟩

open State in
/-- R27: every command leaves the stance set current. -/
theorem exec_keeps_stance (c : Instr) (s t : State) (hs : StanceSetCurrent s) (h : exec c s = .next t) :
    StanceSetCurrent t := by
  by_cases hr : Resets c s
  · exact reset_current hr hs h
  · by_cases ha : AttitudeEvent c
    · exact attitudeEvent_current ha hs h
    · obtain ⟨u, hu, footed⟩ := exec_footed c s hr ha
      obtain rfl := Host.Outcome.next.inj (hu.symm.trans h)
      exact footed.keeps hs

end Sys2Proof.Machine

open Sys2Proof Sys2Proof.Machine

/-- Settles O5: a millisecond writes nothing of what R27 reads, and every command leaves the stance set current. -/
theorem stanceSetStaysCurrent : Obligations.StanceSetStaysCurrent := by
  intro s t hs h
  unfold step at h
  split at h
  · obtain rfl := Host.Outcome.next.inj h
    exact State.tick_current hs
  · rename_i c rest _
    exact exec_keeps_stance c { s with pending := rest } t hs h

end

section
/-! ## O19: roots and slopes (00_scope.md, Conventions; R30) -/

namespace Sys2Proof.Machine

/-- A root found bit by bit from `r`, which lies within `2 ^ k` below it. -/
theorem rootFrom_bounds (n k r : Nat) (lower : r * r ≤ n) (upper : n < (r + 2 ^ k) * (r + 2 ^ k)) :
    rootFrom n k r * rootFrom n k r ≤ n ∧ n < (rootFrom n k r + 1) * (rootFrom n k r + 1) := by
  induction k generalizing r with
  | zero => exact ⟨lower, by simpa [rootFrom] using upper⟩
  | succ k ih =>
    rw [rootFrom]
    rw [pow_succ, mul_two, ← add_assoc] at upper
    split
    · rename_i h
      exact ih (r + 2 ^ k) h upper
    · rename_i h
      exact ih r lower (by omega)

theorem floorRoot_bounds (n : Nat) : floorRoot n * floorRoot n ≤ n ∧ n < (floorRoot n + 1) * (floorRoot n + 1) := by
  refine rootFrom_bounds n _ 0 (by simp) ?_
  calc n < 2 ^ (n.log2 + 1) := Nat.lt_log2_self
    _ ≤ 2 ^ ((n.log2 / 2 + 1) + (n.log2 / 2 + 1)) := Nat.pow_le_pow_right (by decide) (by omega)
    _ = (0 + 2 ^ (n.log2 / 2 + 1)) * (0 + 2 ^ (n.log2 / 2 + 1)) := by rw [pow_add, zero_add]

theorem floorRoot_pos {n : Nat} (h : 0 < n) : 0 < floorRoot n := by
  by_contra hz
  have zero : floorRoot n = 0 := by omega
  have bound := (floorRoot_bounds n).2
  rw [zero] at bound
  omega

/-- R30: the quotient of a nonnegative product, rounded to nearest with a half up. -/
def nearest (m down : Int) : Int := (m + down / 2) / down

theorem nearest_bounds (m : Int) {down : Int} (h : 0 < down) :
    2 * nearest m down * down ≤ 2 * m + down ∧ 2 * m + down < 2 * (nearest m down + 1) * down := by
  have low : nearest m down * down ≤ m + down / 2 := Int.ediv_mul_le _ (by omega)
  have high : m + down / 2 < (nearest m down + 1) * down := Int.lt_ediv_add_one_mul_self _ h
  rw [mul_assoc, mul_assoc]
  generalize nearest m down * down = a at low
  generalize (nearest m down + 1) * down = b at high
  omega

theorem nearest_zero {down : Int} (h : 0 < down) : nearest 0 down = 0 := by
  rw [nearest, zero_add]
  exact Int.ediv_eq_zero_of_lt (by omega) (by omega)

theorem slopeShift_of_nonneg {d h down : Int} (hd : 0 ≤ d) (hh : 0 ≤ h) (hdown : 0 < down) :
    slopeShift d h down = clamp (-1023) 1023 (nearest (d * h) down) := by
  have product : 0 ≤ d * h := mul_nonneg hd hh
  have magnitude : (((d * h).natAbs : Int) + down.tdiv 2).tdiv down = nearest (d * h) down := by
    rw [Int.natAbs_of_nonneg product, Int.tdiv_eq_ediv_of_nonneg (a := down) (by omega),
      Int.tdiv_eq_ediv_of_nonneg (by omega)]
    rfl
  unfold slopeShift
  dsimp only
  rw [magnitude, if_neg (by omega)]
  split
  · rename_i zero
    rw [zero, zero_mul, nearest_zero hdown]
  · rfl

theorem slopeShift_of_neg {d h down : Int} (hd : d < 0) (hh : 0 ≤ h) (hdown : 0 < down) :
    slopeShift d h down = clamp (-1023) 1023 (-nearest (-d * h) down) := by
  have product : d * h ≤ 0 := mul_nonpos_of_nonpos_of_nonneg hd.le hh
  have magnitude : (((d * h).natAbs : Int) + down.tdiv 2).tdiv down = nearest (-d * h) down := by
    rw [Int.ofNat_natAbs_of_nonpos product, Int.tdiv_eq_ediv_of_nonneg (a := down) (by omega),
      Int.tdiv_eq_ediv_of_nonneg (by omega), nearest, neg_mul]
  unfold slopeShift
  dsimp only
  rw [magnitude, if_pos hd]

end Sys2Proof.Machine

open Sys2Proof.Machine

/-- Settles O19: the root is found bit by bit; the shift is the nearest quotient of the magnitudes, with the sign of d. -/
theorem rootsAndSlopesAreExact : Obligations.RootsAndSlopesAreExact := by
  refine ⟨floorRoot_bounds, fun d h down hdown hh => ?_⟩
  have positive : 0 < down := by omega
  by_cases hd : 0 ≤ d
  · obtain ⟨low, high⟩ := nearest_bounds (d * h) positive
    refine ⟨nearest (d * h) down, slopeShift_of_nonneg hd hh positive, fun _ => ?_, fun hd' => ?_⟩
    · rw [mul_assoc 2 d h]
      exact ⟨low, high⟩
    · obtain rfl : d = 0 := by omega
      rw [zero_mul, nearest_zero positive]
      constructor <;> simp <;> omega
  · obtain ⟨low, high⟩ := nearest_bounds (-d * h) positive
    refine ⟨-nearest (-d * h) down, slopeShift_of_neg (by omega) hh positive, fun hd' => absurd hd' hd, fun _ => ?_⟩
    generalize nearest (-d * h) down = q at low high
    constructor <;> linarith

end

section
/-! ## O37: samples (R21 to R25) -/

namespace Sys2Proof.Machine

namespace State

variable {s : State} {v : Sample}

/-- R22: the band of magnitudes, its ends included. -/
theorem sampleAccepted_iff (v : Sample) : sampleAccepted v = true ↔ acceptable v := by
  simp [sampleAccepted, inRange, acceptable]

theorem exec_sampleRead_accepted (h : acceptable v) :
    exec (.sampleRead (some v)) s = .next (sampled s v).tipTest.swayEvent := by
  have arm : exec (.sampleRead (some v)) s = execSampleRead (some v) s := rfl
  rw [arm, execSampleRead]
  simp only [sampleAccepted_iff, h, if_true]
  rfl

theorem exec_sampleRead_rejected (h : ¬ acceptable v) :
    exec (.sampleRead (some v)) s =
      .next { s with atp.reading := false, atp.rejected := min 65535 (s.atp.rejected + 1) } := by
  have arm : exec (.sampleRead (some v)) s = execSampleRead (some v) s := rfl
  rw [arm, execSampleRead]
  simp only [sampleAccepted_iff, h, if_false]
  rfl

/-- R23, R24: nothing that an accepted sample brings about writes what the sample has written. -/
theorem accepted_sampling (s : State) (v : Sample) : (sampled s v).tipTest.swayEvent.sampling = (sampled s v).sampling :=
  (swayEvent_footed (tipTest_footed (.refl (sampled s v)))).sampling

theorem sampled_sampling (s : State) (v : Sample) :
    (sampled s v).sampling =
      { atp := { s.atp with slots := some (Slots.push s.atp.slots v), since := 0, reading := false },
        dbar := (Slots.push s.atp.slots v).average, attStale := false, tipStale := false } := rfl

theorem exec_attitudeDataReady_of_reading (h : s.atp.reading = true) :
    exec .attitudeDataReady s = .next { s with atp.rejected := min 65535 (s.atp.rejected + 1) } := by
  have arm : exec .attitudeDataReady s = execAttitudeDataReady s := rfl
  rw [arm, execAttitudeDataReady, if_pos h]
  simp only [rejectSample, countUp, ← h]

/-- R24: where the attitude is stale already only the time counts. -/
theorem setStale_of_stale (h : s.scu.attStale = true) : s.setStale = { s with atp.since := max 20 s.atp.since } := by
  simp [setStale, h]

theorem setStale_of_fresh (h : s.scu.attStale = false) :
    s.setStale = State.postNote { s with atp.since := max 20 s.atp.since, scu.attStale := true }
      (.fault .attStale none none) := by
  simp [setStale, h, postFault]

end State
end Sys2Proof.Machine

open Sys2Proof Sys2Proof.Machine

/-- Settles O37: an accepted sample writes its share and no more of the event writes it again; the others only count. -/
theorem samplesAreJudgedAndAge : Obligations.SamplesAreJudgedAndAge := by
  refine ⟨fun s => ⟨fun v low high => ?_, fun v out => ?_, rfl⟩, fun s => ⟨fun h => ?_, fun h => ?_, fun h => ?_, fun h => ?_⟩⟩
  · have kept := (State.accepted_sampling s v).trans (State.sampled_sampling s v)
    have atp := congrArg Sampling.atp kept
    have dbar := congrArg Sampling.dbar kept
    refine ⟨_, State.exec_sampleRead_accepted ⟨low, high⟩, (congrArg Attitude.since atp :),
      (congrArg Attitude.reading atp :), (congrArg Attitude.rejected atp :), (congrArg Sampling.attStale kept :),
      (congrArg Sampling.tipStale kept :), fun none => ?_, fun o some => ?_⟩
    · have filled : Slots.push s.atp.slots v = ⟨v, v, v, v⟩ := by rw [none]; rfl
      have four (x : Int) : x + x + x + x = 4 * x := by ring
      refine ⟨(congrArg Attitude.slots atp).trans (congrArg Option.some filled), dbar.trans ?_⟩
      simp only [filled, Slots.average, four]
    · have pushed : Slots.push s.atp.slots v = ⟨v, o.s0, o.s1, o.s2⟩ := by rw [some]; rfl
      refine ⟨(congrArg Attitude.slots atp).trans (congrArg Option.some pushed), dbar.trans ?_⟩
      rw [pushed]
      rfl
  · exact State.exec_sampleRead_rejected fun ⟨low, high⟩ => by omega
  · have arm : exec .attitudeDataReady s = execAttitudeDataReady s := rfl
    rw [arm, execAttitudeDataReady, if_neg (by simp [h])]
  · exact State.exec_attitudeDataReady_of_reading h
  · exact congrArg _ (State.setStale_of_fresh h)
  · exact congrArg _ (State.setStale_of_stale h)

end

section
/-! ## A TIP taken by a CROUCH (R142, R143, R154, R155) -/

namespace Sys2Proof.Machine

namespace State

variable {s : State}

/-- R5, R41: a change to a body state that stands and is not UNSETTLED. -/
theorem setBody_of_standing {b : BodyState} (r : BodyReason) (h : s.pc.body.mayBecome b = true) (hb : b.standing = true)
    (hu : b ≠ .unsettled) :
    s.setBody b r =
      if b = s.pc.body then { s with pc.body := b, scu.survey := false, scu.surveyTimer := none }
      else postNote { s with pc.body := b, scu.survey := false, scu.surveyTimer := none } (.body s.pc.body b r) := by
  unfold setBody
  simp only [h, hb, hu, if_true, if_false]

/-! ### The reflex entered -/

/-- R142: the notes of a reflex taken. -/
def takenNoted (s : State) (r : Running) : State :=
  let noted := s.postNote (.reflex .taken r.trigger r.leg (some r.kind) (s.rxu.stack.length + 1))
  if s.pc.body = .recover then noted else noted.postNote (.body s.pc.body .recover .reflex)

/-- R142, R143: what runs stands aside, its context on the stack, and the reflex runs. -/
def begun (s : State) (r : Running) : State :=
  { s.standAside with rxu.stack := s.currentContext :: s.rxu.stack, rxu.re1 := false, rxu.running := some r }

/-- R142: the same in RECOVER, with the notes on the line. -/
def entered (s : State) (r : Running) : State :=
  { s.begun r with
    pc.body := .recover, scu.survey := false, scu.surveyTimer := none, hli := (s.takenNoted r).hli }

theorem enterReflex_eq (r : Running) (h : s.pc.body.mayBecome .recover = true) : s.enterReflex r = s.entered r := by
  have parts : s.enterReflex r = ((s.begun r).postNote
      (.reflex .taken r.trigger r.leg (some r.kind) (s.rxu.stack.length + 1))).setBody .recover .reflex := rfl
  rw [parts, postNote_eq_of_hli (s := s) (t := s.begun r) _ rfl]
  refine (setBody_of_standing (s := { s.begun r with hli := _ }) _ h rfl (by decide)).trans ?_
  unfold entered takenNoted
  by_cases hr : s.pc.body = .recover
  · simp only [if_pos hr]
    exact if_pos hr.symm
  · simp only [if_neg hr]
    exact (if_neg fun e => hr e.symm).trans (postNote_eq_of_hli _ rfl)

/-- R143: the context pushed records the activity under way. -/
theorem currentContext_interrupts (s : State) : interrupts s s.currentContext := by
  refine ⟨fun r hr => by simp [currentContext, hr], fun hr => ⟨fun reseat => ?_, fun reseat => ?_⟩⟩
  · simp [currentContext, hr, reseat, attemptsNow]
  · refine ⟨fun hb hf => ?_, fun hb hf => ?_, fun hb => ?_, fun hb => ?_, fun hb => ?_⟩
    · simp [currentContext, hr, reseat, hb, hf]
    · cases hphase : s.ssq.phase
      case pause => exact absurd hphase hf
      all_goals simp [currentContext, hr, reseat, hb, hphase, attemptsNow]
    · simp [currentContext, hr, reseat, hb]
    · simp [currentContext, hr, reseat, hb]
    · simp [currentContext, hr, reseat, hb]

/-- R104: where none but the head is in use, none is once the head is unmarked. -/
theorem unmarkInUse_entries (h : FootholdsSound s) (l : Leg) :
    (s.unmarkInUse.queueOf l).entries = (s.queueOf l).entries.map fun e => { e with inUse := false } := by
  obtain ⟨-, -, unused, -⟩ := h l
  simp only [queueOf, unmarkInUse, PerLeg.get_map]
  change ∀ e ∈ (s.fhq.get l).entries.tail, e.inUse = false at unused
  cases he : (s.fhq.get l).entries with
  | nil => simp only [he, List.map_nil]
  | cons e rest =>
    rw [he] at unused
    have same : rest.map (fun e => { e with inUse := false }) = rest := by
      refine (List.map_congr_left fun e he => ?_).trans (List.map_id rest)
      have unmarked := unused e he
      cases e
      simp_all
    simp only [List.map_cons, same]

/-! ### The crouch -/

/-- R155: the crouch commands modes that a leg keeps on or above the ground. -/
theorem crouchLeg_keeps {β : Type} (π : State → β)
    (hπ : ∀ s l m p c, m ≠ .swing → m ≠ .limp → π (s.setCmd l m p c) = π s) (s : State) (l : Leg) :
    π (s.crouchLeg l) = π s := by
  have air : ∀ p c, π (s.airCmd l .placing p c) = π s := fun p c => by
    rcases airCmd_cases s l .placing p c with ⟨-, e⟩ | ⟨-, e⟩ <;> rw [e]
    exact hπ _ _ _ _ _ (by decide) (by decide)
  unfold crouchLeg
  dsimp only
  split
  · rename_i hm
    exact hπ _ _ _ _ _ (by simp [hm]) (by simp [hm])
  · exact air _ _
  · exact air _ _
  · rfl

/-- R155: the command that the crouch gives a leg. -/
def crouchCmd (s : State) (l : Leg) : LegCmd :=
  match s.modeOf l with
  | .stance => { s.cmdOf l with target := clampPoint { (s.cmdOf l).target with z := s.pc.geom.crouch } }
  | .swing | .placing =>
    if s.otherInAir l then s.cmdOf l
    else { mode := .placing, target := clampPoint { s.footOf l with z := s.pc.geom.crouch },
           clearance := (s.cmdOf l).clearance }
  | _ => s.cmdOf l

theorem crouchLeg_cmdOf_self (s : State) (l : Leg) : (s.crouchLeg l).cmdOf l = s.crouchCmd l := by
  have air : ∀ p c, (s.airCmd l .placing p c).cmdOf l =
      if s.otherInAir l then s.cmdOf l else { mode := .placing, target := clampPoint p, clearance := c } := fun p c => by
    unfold airCmd
    split
    · rfl
    · exact setCmd_cmdOf_self ..
  unfold crouchLeg crouchCmd
  cases hm : s.modeOf l with
  | stance => exact (setCmd_cmdOf_self ..).trans (by rfl)
  | swing => exact air _ _
  | placing => exact air _ _
  | _ => rfl

theorem crouchLeg_cmdOf_of_ne (s : State) {k l : Leg} (h : k ≠ l) : (s.crouchLeg l).cmdOf k = s.cmdOf k := by
  have air : ∀ p c, (s.airCmd l .placing p c).cmdOf k = s.cmdOf k := fun p c => by
    rcases airCmd_cases s l .placing p c with ⟨-, e⟩ | ⟨-, e⟩ <;> rw [e]
    exact setCmd_cmdOf_of_ne _ _ _ _ h
  unfold crouchLeg
  cases s.modeOf l with
  | stance => exact setCmd_cmdOf_of_ne _ _ _ _ h
  | swing => exact air _ _
  | placing => exact air _ _
  | _ => rfl

/-- R46: a leg in the air stays there. -/
theorem crouchCmd_air (s : State) (l : Leg) :
    ((s.crouchCmd l).mode = .swing ∨ (s.crouchCmd l).mode = .placing) ↔ s.inAir l := by
  unfold crouchCmd inAir
  cases hm : s.modeOf l
  case swing => by_cases h : s.otherInAir l = true <;> simp_all [modeOf]
  case placing => by_cases h : s.otherInAir l = true <;> simp_all [modeOf]
  all_goals simp_all [modeOf]

theorem crouchLeg_otherInAir (s : State) {k l : Leg} (h : k ≠ l) : (s.crouchLeg l).otherInAir k = s.otherInAir k := by
  have air : ∀ j, ((s.crouchLeg l).modeOf j = .swing ∨ (s.crouchLeg l).modeOf j = .placing) ↔ s.inAir j := fun j => by
    by_cases hj : j = l
    · subst hj
      rw [modeOf, crouchLeg_cmdOf_self]
      exact crouchCmd_air s j
    · rw [modeOf, crouchLeg_cmdOf_of_ne s hj]
      rfl
  unfold otherInAir
  congr 1
  funext j
  have same := air j
  unfold inAir at same
  rw [Bool.eq_iff_iff]
  simp only [Bool.and_eq_true, Bool.or_eq_true, beq_iff_eq, same]

/-- R155: every leg commanded. -/
def crouchAll (s : State) : State := Leg.all.foldl crouchLeg s

theorem crouchAll_keeps {β : Type} (π : State → β)
    (hπ : ∀ s l m p c, m ≠ .swing → m ≠ .limp → π (s.setCmd l m p c) = π s) (s : State) : π s.crouchAll = π s :=
  foldl_keeps π (crouchLeg_keeps π hπ) _ _

@[simp] theorem crouchAll_pc (s : State) : s.crouchAll.pc = s.pc := crouchAll_keeps State.pc (by simp) s
@[simp] theorem crouchAll_atp (s : State) : s.crouchAll.atp = s.atp := crouchAll_keeps State.atp (by simp) s
@[simp] theorem crouchAll_scu (s : State) : s.crouchAll.scu = s.scu := crouchAll_keeps State.scu (by simp) s
@[simp] theorem crouchAll_pls (s : State) : s.crouchAll.pls = s.pls := crouchAll_keeps State.pls (by simp) s
@[simp] theorem crouchAll_fhq (s : State) : s.crouchAll.fhq = s.fhq := crouchAll_keeps State.fhq (by simp) s
@[simp] theorem crouchAll_ztb (s : State) : s.crouchAll.ztb = s.ztb := crouchAll_keeps State.ztb (by simp) s
@[simp] theorem crouchAll_tdu (s : State) : s.crouchAll.tdu = s.tdu := crouchAll_keeps State.tdu (by simp) s
@[simp] theorem crouchAll_hli (s : State) : s.crouchAll.hli = s.hli := crouchAll_keeps State.hli (by simp) s

@[simp] theorem crouchAll_rxu (s : State) : s.crouchAll.rxu = s.rxu :=
  crouchAll_keeps State.rxu (fun s l _ p c _ hl => setCmd_rxu hl s l p c) s

@[simp] theorem crouchAll_verified (s : State) : s.crouchAll.ssq.verified = s.ssq.verified :=
  crouchAll_keeps (fun s => s.ssq.verified) (fun s l _ p c hs hl => setCmd_verified hs hl s l p c) s

@[simp] theorem crouchAll_uncommanded (s : State) : s.crouchAll.ssq.uncommanded = s.ssq.uncommanded :=
  crouchAll_keeps (fun s => s.ssq.uncommanded) (fun s l m p c _ _ => setCmd_uncommanded s l m p c) s

@[simp] theorem crouchAll_admitted (s : State) (k : Leg) : s.crouchAll.admitted k = s.admitted k :=
  crouchAll_keeps (fun s => s.admitted k) (by simp) s

@[simp] theorem crouchAll_linkOk (s : State) (k : Leg) : s.crouchAll.linkOk k = s.linkOk k :=
  crouchAll_keeps (fun s => s.linkOk k) (by simp) s

theorem crouchAll_cmdOf (s : State) (k : Leg) : s.crouchAll.cmdOf k = s.crouchCmd k :=
  foldl_all_reads cmdOf crouchCmd crouchLeg_cmdOf_self (fun s _ _ h => crouchLeg_cmdOf_of_ne s h) (fun s k l h => by
    have foot : (s.crouchLeg l).footOf k = s.footOf k := by
      have last := crouchLeg_keeps (fun s => (s.link k).last) (by simp) s l
      simp only [footOf, last]
    simp only [crouchCmd, modeOf, crouchLeg_cmdOf_of_ne s h, crouchLeg_otherInAir s h, crouchLeg_pc, foot]) k

theorem beginCrouch_eq (s : State) :
    s.beginCrouch =
      { s.crouchAll with
        rxu.crouch := .running, rxu.stageTimer := some 0,
        rxu.crouching := .tab fun l => s.crouchAll.admitted l && s.crouchAll.linkOk l &&
          (s.crouchAll.modeOf l == .stance || s.crouchAll.modeOf l == .placing) } := rfl

/-! ### The TIP -/

/-- R39: from every state in which TIP is tested the body may go into RECOVER. -/
theorem mayRecover_of_standing {b : BodyState} (h : b.standing = true) : b.mayBecome .recover = true := by
  revert h
  cases b <;> decide

theorem raiseTip_taken (hb : s.pc.body.standing = true) (hp : s.pc.protect = false) (hc : s.rxu.crouch = .clear)
    (hs : s.rxu.stack.length < 4) : s.raiseTip = (s.entered crouchReflex).beginCrouch := by
  have room : s.rxu.stack.length < Config.contextCapacity := hs
  rw [← enterReflex_eq _ (mayRecover_of_standing hb)]
  simp [raiseTip, hp, hc, room]

/-- R39, R142: TIP raised and taken, before the crouch commands the legs. -/
def tipped (s : State) : State := entered { s with scu.tipCondition := true, scu.tipRaised := true } crouchReflex

theorem takenNoted_hli_of_hli {t : State} (r : Running) (hh : t.hli = s.hli) (hp : t.pc = s.pc) (hr : t.rxu = s.rxu) :
    (t.takenNoted r).hli = (s.takenNoted r).hli := by
  have noted := postNote_hli_congr (.reflex .taken r.trigger r.leg (some r.kind) (s.rxu.stack.length + 1)) hh
  unfold takenNoted
  rw [hp, hr]
  split
  · exact noted
  · exact postNote_hli_congr _ noted

/-- R142, R143, R155: what the state becomes. -/
theorem tipped_beginCrouch (hone : OneLegInAir s) : crouchTaken s s.tipped.beginCrouch := by
  generalize hq : s.tipped = q
  have cmd : ∀ l, q.cmdOf l = s.cmdOf l := fun l => by rw [← hq]; rfl
  have mode : ∀ l, q.modeOf l = s.modeOf l := fun l => congrArg LegCmd.mode (cmd l)
  have foot : ∀ l, q.footOf l = s.footOf l := fun l => by rw [← hq]; rfl
  have height : q.pc.geom.crouch = s.pc.geom.crouch := by rw [← hq]; rfl
  have alone : ∀ l, s.inAir l → q.otherInAir l = false := fun l hl => by
    rw [← otherInAir_of_one hone hl, otherInAir, otherInAir]
    simp only [mode]
  have crouched : ∀ l, q.beginCrouch.cmdOf l = q.crouchCmd l := crouchAll_cmdOf q
  have stands : ∀ l, s.modeOf l = .stance → q.crouchCmd l =
      { s.cmdOf l with target := clampPoint { (s.cmdOf l).target with z := s.pc.geom.crouch } } := fun l hl => by
    simp only [crouchCmd, mode, hl, cmd, height]
  have lowers : ∀ l, s.inAir l → q.crouchCmd l =
      { mode := .placing, target := clampPoint { s.footOf l with z := s.pc.geom.crouch },
        clearance := (s.cmdOf l).clearance } := fun l hl => by
    rcases hl with h | h <;> simp [crouchCmd, mode, h, cmd, height, foot, alone l (by simp [inAir, h])]
  have rests : ∀ l, s.modeOf l = .limp ∨ s.modeOf l = .hold ∨ s.modeOf l = .calib → q.crouchCmd l = s.cmdOf l :=
    fun l hl => by
      rcases hl with h | h | h <;> simp [crouchCmd, mode, h, cmd]
  have uncommanded : q.beginCrouch.ssq.uncommanded = q.ssq.uncommanded := crouchAll_uncommanded q
  have crouching : ∀ l, q.beginCrouch.rxu.crouching.get l = true ↔
      (s.link l).withdrawn = false ∧ (s.link l).link = .ok ∧ (s.modeOf l = .stance ∨ s.inAir l) := fun l => by
    have admits : q.crouchAll.admitted l = s.admitted l := (crouchAll_admitted q l).trans (by rw [← hq]; rfl)
    have linked : q.crouchAll.linkOk l = s.linkOk l := (crouchAll_linkOk q l).trans (by rw [← hq]; rfl)
    have grounded : (q.crouchAll.modeOf l = .stance ∨ q.crouchAll.modeOf l = .placing) ↔
        s.modeOf l = .stance ∨ s.inAir l := by
      rw [modeOf, crouchAll_cmdOf]
      by_cases hair : s.inAir l
      · simp [lowers l hair, hair]
      · by_cases hst : s.modeOf l = .stance
        · simp [stands l hst, hst, show (s.cmdOf l).mode = .stance from hst]
        · have other : s.modeOf l = .limp ∨ s.modeOf l = .hold ∨ s.modeOf l = .calib := by
            unfold inAir at hair
            cases hm : s.modeOf l <;> simp_all
          have same : (q.crouchCmd l).mode = s.modeOf l := congrArg LegCmd.mode (rests l other)
          rw [same]
          unfold inAir at hair ⊢
          simp_all
    simp only [beginCrouch_eq, PerLeg.get_tab, Bool.and_eq_true, Bool.or_eq_true, beq_iff_eq, admits, linked, grounded]
    simp [admitted, linkOk, and_assoc]
  subst hq
  have rxu := crouchAll_rxu s.tipped
  have pls := crouchAll_pls s.tipped
  have fhq := crouchAll_fhq s.tipped
  refine ⟨crouchAll_pc _, rfl, (congrArg Reflexes.re1 rxu :), (congrArg Reflexes.re2 rxu :), rfl,
    (congrArg Reflexes.liftTimer rxu :), (congrArg Reflexes.pending rxu :),
    (congrArg Reflexes.table rxu :), (congrArg Reflexes.dropped rxu :),
    ⟨s.currentContext, (congrArg Reflexes.stack rxu :), currentContext_interrupts s⟩,
    ⟨crouchReflex, (congrArg Reflexes.running rxu :), rfl, rfl, rfl, rfl⟩, crouching,
    (congrArg Strider.phase uncommanded :), (congrArg Strider.stepping uncommanded :), (congrArg Strider.stopMark uncommanded :),
    (congrArg Strider.phaseTimer uncommanded :), (congrArg Placer.placement pls :),
    (congrArg Placer.placeTimer pls :), (congrArg Placer.reswingTimer pls :),
    (congrArg Placer.reseat pls :), fun l hl => ?_, fun l hl => ?_, fun l hl => ?_, crouchAll_verified _,
    (congrArg Strider.odometer uncommanded :), (congrArg Strider.count uncommanded :), fun hf l => ?_, crouchAll_scu _, ?_,
    crouchAll_atp _, crouchAll_ztb _, crouchAll_tdu _⟩
  · rw [modeOf, crouched, stands l hl]
    exact ⟨hl, rfl⟩
  · rw [modeOf, crouched, lowers l hl]
    exact ⟨rfl, rfl⟩
  · rw [crouched, rests l hl]
  · exact (congrArg (fun q => (PerLeg.get q l).entries) fhq).trans (unmarkInUse_entries hf l)
  · exact (crouchAll_hli _).trans (takenNoted_hli_of_hli _ rfl rfl rfl)

theorem standing_of_tipTested (ht : s.tipTested = true) : s.pc.body.standing = true := by
  unfold tipTested at ht
  exact (Bool.and_eq_true_iff.mp ht).1

/-- R39, R142, R155: a TIP that the test finds and the machine can take is taken by a CROUCH. -/
theorem tipTest_taken (ht : s.tipTested = true) (hh : s.tipHolds = true) (hr : s.scu.tipRaised = false)
    (hp : s.pc.protect = false) (hc : s.rxu.crouch = .clear) (hs : s.rxu.stack.length < 4) (hone : OneLegInAir s) :
    crouchTaken s s.tipTest := by
  have taken : s.tipTest = s.tipped.beginCrouch := by
    unfold tipTest tipTestWith
    rw [if_pos ht, if_pos hh, hr]
    exact raiseTip_taken (s := { s with scu.tipCondition := true, scu.tipRaised := true })
      (standing_of_tipTested ht) hp hc hs
  rw [taken]
  exact tipped_beginCrouch hone

/-- R39, R41: where the condition fails, or is not tested, nothing is raised. -/
theorem tipTest_of_untested (ht : s.tipTested = false) : s.tipTest = { s with scu.tipRaised := false } := by
  unfold tipTest tipTestWith
  simp [ht]

theorem tipTest_of_clear (ht : s.tipTested = true) (hh : s.tipHolds = false) :
    s.tipTest = { s with scu.tipCondition := false, scu.tipRaised := false } := by
  unfold tipTest tipTestWith
  simp [ht, hh]

theorem tipTest_eq_of_not_holds (hh : s.tipHolds = false) :
    s.tipTest = { s with scu := { s.scu with tipRaised := false, tipCondition := s.tipTest.scu.tipCondition } } := by
  cases ht : s.tipTested
  · rw [tipTest_of_untested ht]
  · rw [tipTest_of_clear ht hh]

/-! ### Staleness and the survey -/

/-- R25: both staleness conditions at once, with one FAULT note an interval. -/
def agedOut (s : State) : State :=
  let noted := if s.scu.attStale = true then s else s.postNote (.fault .attStale none none)
  { noted with atp.since := max 200 (max 20 s.atp.since), scu.attStale := true, scu.tipStale := true }

theorem agedOut_eq (s : State) :
    s.agedOut = { s with atp := s.agedOut.atp, scu := s.agedOut.scu, hli := s.agedOut.hli } := by
  unfold agedOut
  split
  · rfl
  · rw [postNote_eq]

theorem agedOut_scu (s : State) : s.agedOut.scu = { s.scu with attStale := true, tipStale := true } := by
  unfold agedOut
  split
  · rfl
  · rw [postNote_eq]

theorem setStale_aged (s : State) :
    { s.setStale with atp.since := max 200 s.setStale.atp.since, scu.tipStale := true } = s.agedOut := by
  unfold agedOut
  cases h : s.scu.attStale
  · have noted := postNote_eq_of_hli (s := s) (t := { s with atp.since := max 20 s.atp.since, scu.attStale := true })
      (.fault .attStale none none) rfl
    rw [setStale_of_fresh h, noted, postNote_eq s]
    rfl
  · rw [setStale_of_stale h, if_pos rfl]
    simp only [← h]

theorem execTipStaleTimeout_eq (s : State) : exec .tipStaleTimeout s = .next s.agedOut.tipTest :=
  congrArg (fun t => Host.Outcome.next (tipTest t)) (setStale_aged s)

theorem agedOut_tipTested (s : State) : s.agedOut.tipTested = s.tipTested := by
  rw [agedOut_eq]
  simp only [tipTested, agedOut_scu]

theorem agedOut_tipHolds (s : State) : s.agedOut.tipHolds = true := by
  simp [tipHolds, agedOut_scu]

/-- R41: the body no longer waits for first reports. -/
def surveyed (s : State) : State := { s with scu.survey := false, scu.surveyTimer := none }

theorem surveyed_tipTested (hb : s.pc.body = .unsettled) : s.surveyed.tipTested = true := by
  simp [surveyed, tipTested, hb, BodyState.standing]

theorem execSurveyTimeout_eq (h : s.scu.survey = true) : exec .surveyTimeout s = .next s.surveyed.tipTest := by
  have parts : exec .surveyTimeout s = .next (if s.scu.survey then s.endSurvey else s) := rfl
  rw [parts, if_pos h]
  rfl

end State
end Sys2Proof.Machine

open Sys2Proof Sys2Proof.Machine

/-- Settles O38: where the test is made and the condition holds, the TIP is taken by a CROUCH; elsewhere nothing is raised. -/
theorem stalenessRaisesTipAndSurveysEnd : Obligations.StalenessRaisesTipAndSurveysEnd := by
  unfold Obligations.StalenessRaisesTipAndSurveysEnd
  refine ⟨fun s => ⟨fun ht hr hp hc hs hone => ⟨_, State.execTipStaleTimeout_eq s, ?_⟩,
    fun ht => ⟨_, State.execTipStaleTimeout_eq s, ?_⟩⟩,
    fun s hsurvey => ⟨fun hh => ⟨_, State.execSurveyTimeout_eq hsurvey, ?_⟩,
      fun hh hb hr hp hc hs hone => ⟨_, State.execSurveyTimeout_eq hsurvey, ?_⟩⟩⟩
  · refine State.tipTest_taken (s := s.agedOut) ?_ s.agedOut_tipHolds ?_ ?_ ?_ ?_ ?_
    · rwa [State.agedOut_tipTested]
    · rwa [State.agedOut_scu]
    all_goals rwa [State.agedOut_eq]
  · rw [State.tipTest_of_untested (by rwa [State.agedOut_tipTested])]
    refine ⟨by rw [State.agedOut_scu], by rw [State.agedOut_scu], ?_, ?_, ?_, ?_, ?_, rfl⟩
    all_goals rw [State.agedOut_eq]
  · have stands := State.tipTest_eq_of_not_holds (s := s.surveyed) hh
    have scu := congrArg State.scu stands
    refine ⟨congrArg Support.survey scu, congrArg Support.surveyTimer scu, congrArg Support.tipRaised scu, stands,
      fun hb => ?_⟩
    rw [State.tipTest_of_clear (State.surveyed_tipTested hb) hh]
  · exact State.tipTest_taken (State.surveyed_tipTested hb) hh hr hp hc hs hone

end

section
/-! ## Vertex lists and margins (R32, R33, R34) -/

namespace Sys2Proof.Machine

/-! ### Repeats dropped -/

/-- No vertex equals the one before it, by index. -/
theorem isChain_ne_iff {vs : List Pair} :
    vs.IsChain (· ≠ ·) ↔ ∀ (i : Nat) (a : Pair), vs[i]? = some a → vs[i + 1]? ≠ some a := by
  rw [List.isChain_iff_getElem]
  constructor
  · intro chain i a here next
    obtain ⟨_, rfl⟩ := List.getElem?_eq_some_iff.mp here
    obtain ⟨high, same⟩ := List.getElem?_eq_some_iff.mp next
    exact chain i high same.symm
  · intro differ i high same
    exact differ i vs[i] (List.getElem?_eq_getElem (by omega)) ((List.getElem?_eq_getElem high).trans (by rw [same]))

theorem dropRepeats_cons (a : Pair) (rest : List Pair) : ∃ more, dropRepeats (a :: rest) = a :: more := by
  unfold dropRepeats
  split
  · exact ⟨_, rfl⟩
  · split
    · exact ⟨_, rfl⟩
    · exact ⟨_, rfl⟩

theorem dropRepeats_cons_cons (a b : Pair) (rest : List Pair) :
    dropRepeats (a :: b :: rest) = if a = b then dropRepeats (b :: rest) else a :: dropRepeats (b :: rest) := by
  obtain ⟨more, kept⟩ := dropRepeats_cons b rest
  rw [dropRepeats, kept]
  dsimp only
  split
  · rename_i h
    rw [h]
  · rfl

/-- The induction along the equations: an empty list, one vertex, a vertex before another. -/
theorem dropRepeats_induct {motive : List Pair → Prop} (nil : motive []) (one : ∀ a, motive [a])
    (more : ∀ a b rest, motive (b :: rest) → motive (a :: b :: rest)) : ∀ feet, motive feet
  | [] => nil
  | [a] => one a
  | a :: b :: rest => more a b rest (dropRepeats_induct nil one more (b :: rest))

theorem dropRepeats_sublist (feet : List Pair) : (dropRepeats feet).Sublist feet := by
  induction feet using dropRepeats_induct with
  | nil => exact .slnil
  | one a => exact .refl _
  | more a b rest ih =>
    rw [dropRepeats_cons_cons]
    split
    · exact ih.cons a
    · exact ih.cons_cons a

theorem head?_dropRepeats (feet : List Pair) : (dropRepeats feet).head? = feet.head? := by
  cases feet with
  | nil => rfl
  | cons a rest =>
    obtain ⟨more, kept⟩ := dropRepeats_cons a rest
    rw [kept]
    rfl

theorem mem_dropRepeats {feet : List Pair} {p : Pair} (h : p ∈ feet) : p ∈ dropRepeats feet := by
  induction feet using dropRepeats_induct with
  | nil => exact h
  | one a => exact h
  | more a b rest ih =>
    rw [dropRepeats_cons_cons]
    obtain ⟨more, kept⟩ := dropRepeats_cons b rest
    rcases List.mem_cons.mp h with rfl | later
    · split
      · rename_i same
        simp [kept, same]
      · exact List.mem_cons_self
    · split
      · exact ih later
      · exact List.mem_cons_of_mem _ (ih later)

theorem isChain_dropRepeats (feet : List Pair) : (dropRepeats feet).IsChain (· ≠ ·) := by
  induction feet using dropRepeats_induct with
  | nil => exact .nil
  | one a => exact .singleton a
  | more a b rest ih =>
    rw [dropRepeats_cons_cons]
    split
    · exact ih
    · rename_i differ
      obtain ⟨more, kept⟩ := dropRepeats_cons b rest
      rw [kept] at ih ⊢
      exact .cons_cons differ ih

theorem dropRepeats_of_isChain {feet : List Pair} (h : feet.IsChain (· ≠ ·)) : dropRepeats feet = feet := by
  induction feet using dropRepeats_induct with
  | nil => rfl
  | one a => rfl
  | more a b rest ih =>
    obtain ⟨differ, clean⟩ := List.isChain_cons_cons.mp h
    rw [dropRepeats_cons_cons, if_neg differ, ih clean]

theorem dropRepeats_map {f : Pair → Pair} (hf : f.Injective) (feet : List Pair) :
    dropRepeats (feet.map f) = (dropRepeats feet).map f := by
  induction feet using dropRepeats_induct with
  | nil => rfl
  | one a => rfl
  | more a b rest ih =>
    simp only [List.map_cons] at ih ⊢
    rw [dropRepeats_cons_cons, dropRepeats_cons_cons, ih]
    by_cases same : a = b
    · rw [if_pos same, if_pos (congrArg f same)]
    · rw [if_neg same, if_neg fun e => same (hf e), List.map_cons]

/-! ### The last vertex -/

/-- R32: the list closes on itself. -/
def Closes (vs : List Pair) : Prop := 2 ≤ vs.length ∧ vs.getLast? = vs.head?

theorem Closes.eq_cons_concat {vs : List Pair} (h : Closes vs) : ∃ a init, vs = (a :: init) ++ [a] := by
  obtain ⟨two, closes⟩ := h
  match vs with
  | [] => simp at two
  | [a] => simp at two
  | a :: b :: rest =>
    rw [List.head?_cons] at closes
    exact ⟨a, (b :: rest).dropLast, (List.dropLast_append_getLast? a closes).symm⟩

theorem vertexList_of_closes {feet : List Pair} (h : Closes (dropRepeats feet)) :
    vertexList feet = (dropRepeats feet).dropLast := by
  obtain ⟨two, closes⟩ := h
  unfold vertexList
  match hk : dropRepeats feet with
  | [] => simp [hk] at two
  | [a] => simp [hk] at two
  | a :: b :: rest =>
    rw [hk, List.getLast?_cons_cons, List.head?_cons] at closes
    simp [closes]

theorem vertexList_of_open {feet : List Pair} (h : ¬ Closes (dropRepeats feet)) : vertexList feet = dropRepeats feet := by
  unfold vertexList
  match hk : dropRepeats feet with
  | [] => rfl
  | [a] => rfl
  | a :: b :: rest =>
    have differ : (b :: rest).getLast? ≠ some a := fun e =>
      h ⟨by simp [hk], by rw [hk, List.getLast?_cons_cons, e, List.head?_cons]⟩
    simp [differ]

theorem vertexList_prefix (feet : List Pair) : vertexList feet <+: dropRepeats feet := by
  by_cases h : Closes (dropRepeats feet)
  · rw [vertexList_of_closes h]
    exact List.dropLast_prefix _
  · rw [vertexList_of_open h]

theorem vertexList_sublist (feet : List Pair) : (vertexList feet).Sublist feet :=
  (vertexList_prefix feet).sublist.trans (dropRepeats_sublist feet)

theorem head?_vertexList (feet : List Pair) : (vertexList feet).head? = feet.head? := by
  by_cases h : Closes (dropRepeats feet)
  · obtain ⟨a, init, around⟩ := h.eq_cons_concat
    rw [vertexList_of_closes h, ← head?_dropRepeats feet, around, List.dropLast_concat]
    rfl
  · rw [vertexList_of_open h, head?_dropRepeats]

theorem mem_vertexList {feet : List Pair} {p : Pair} (hp : p ∈ feet) : p ∈ vertexList feet := by
  have kept := mem_dropRepeats hp
  by_cases h : Closes (dropRepeats feet)
  · obtain ⟨a, init, around⟩ := h.eq_cons_concat
    rw [vertexList_of_closes h, around, List.dropLast_concat]
    simp only [around, List.mem_append, List.mem_cons, List.not_mem_nil, or_false] at kept ⊢
    tauto
  · rwa [vertexList_of_open h]

theorem isChain_vertexList (feet : List Pair) : (vertexList feet).IsChain (· ≠ ·) :=
  (isChain_dropRepeats feet).prefix (vertexList_prefix feet)

/-- R32: what is left does not close on itself again: its last two would have been equal. -/
theorem not_closes_vertexList (feet : List Pair) : ¬ Closes (vertexList feet) := by
  by_cases h : Closes (dropRepeats feet)
  · obtain ⟨a, init, around⟩ := h.eq_cons_concat
    have clean := isChain_dropRepeats feet
    rw [around, List.isChain_append] at clean
    obtain ⟨-, -, differ⟩ := clean
    rw [vertexList_of_closes h, around, List.dropLast_concat]
    rintro ⟨-, closes⟩
    exact differ a closes a rfl rfl
  · rwa [vertexList_of_open h]

theorem vertexList_of_clean {feet : List Pair} (h : feet.IsChain (· ≠ ·)) (open' : ¬ Closes feet) :
    vertexList feet = feet := by
  have kept := dropRepeats_of_isChain h
  rw [vertexList_of_open (by rwa [kept]), kept]

theorem closes_map {f : Pair → Pair} (hf : f.Injective) (vs : List Pair) : Closes (vs.map f) ↔ Closes vs := by
  unfold Closes
  rw [List.length_map, List.getLast?_map, List.head?_map, (Option.map_injective hf).eq_iff]

theorem vertexList_map {f : Pair → Pair} (hf : f.Injective) (feet : List Pair) :
    vertexList (feet.map f) = (vertexList feet).map f := by
  have kept := dropRepeats_map hf feet
  by_cases h : Closes (dropRepeats feet)
  · rw [vertexList_of_closes h, vertexList_of_closes (by rwa [kept, closes_map hf]), kept, List.map_dropLast]
  · rw [vertexList_of_open h, vertexList_of_open (by rwa [kept, closes_map hf]), kept]

/-! ### The edges, by index -/

/-- The vertex at an index, counted round. -/
def vertexAt (vs : List Pair) (i : Nat) : Pair := vs.getD (i % vs.length) Pair.zero

theorem vertexAt_of_lt {vs : List Pair} {i : Nat} (h : i < vs.length) : vertexAt vs i = vs[i] := by
  simp [vertexAt, Nat.mod_eq_of_lt h, h]

theorem vertexAt_length {vs : List Pair} (h : 0 < vs.length) : vertexAt vs vs.length = vs[0] := by
  simp [vertexAt, h]

theorem edges_length (vs : List Pair) : (edges vs).length = vs.length := by
  cases vs <;> simp [edges]

theorem edges_getElem {vs : List Pair} {i : Nat} (h : i < (edges vs).length) :
    (edges vs)[i] = (vertexAt vs i, vertexAt vs (i + 1)) := by
  have low : i < vs.length := by rwa [edges_length] at h
  cases vs with
  | nil => simp at low
  | cons a rest =>
    rw [vertexAt_of_lt low]
    by_cases last : i = rest.length
    · subst last
      have first := vertexAt_length (vs := a :: rest) (by simp)
      simp only [List.length_cons] at first
      simp [edges, first]
    · have next : i + 1 < (a :: rest).length := by
        simp only [List.length_cons] at low ⊢
        omega
      rw [vertexAt_of_lt next]
      have inside : i < rest.length := by simpa using next
      simp [edges, List.getElem_append_left inside]

theorem edges_eq (vs : List Pair) :
    edges vs = (List.range vs.length).map fun i => (vertexAt vs i, vertexAt vs (i + 1)) := by
  refine List.ext_getElem (by simp [edges_length]) fun i h _ => ?_
  rw [edges_getElem h]
  simp

/-- R32: neighbours on a vertex list of two or more differ. -/
theorem vertexAt_succ_ne {feet : List Pair} {i : Nat} (two : 2 ≤ (vertexList feet).length)
    (h : i < (vertexList feet).length) : vertexAt (vertexList feet) i ≠ vertexAt (vertexList feet) (i + 1) := by
  have clean := isChain_vertexList feet
  have unclosed := not_closes_vertexList feet
  generalize vertexList feet = vs at *
  by_cases last : i + 1 = vs.length
  · intro same
    refine unclosed ⟨two, ?_⟩
    rw [vertexAt_of_lt h, last, vertexAt_length (by omega)] at same
    have index : i = vs.length - 1 := by omega
    subst index
    rw [List.getLast?_eq_getElem?, List.head?_eq_getElem?, List.getElem?_eq_getElem h,
      List.getElem?_eq_getElem (by omega), same]
  · have next : i + 1 < vs.length := by omega
    rw [vertexAt_of_lt h, vertexAt_of_lt next]
    exact List.isChain_iff_getElem.mp clean i next

/-! ### Distances -/

theorem edgeDistance_bounds (p : Pair) {a b : Pair} (h : a ≠ b) :
    let len : Int := floorRoot ((b.x - a.x) * (b.x - a.x) + (b.y - a.y) * (b.y - a.y)).toNat
    let cross := (b.x - a.x) * (p.y - a.y) - (b.y - a.y) * (p.x - a.x)
    1 ≤ len ∧ edgeDistance p (a, b) * len ≤ cross ∧ cross < (edgeDistance p (a, b) + 1) * len := by
  intro len cross
  have long : 1 ≤ len := by
    have apart : 0 < (b.x - a.x) * (b.x - a.x) + (b.y - a.y) * (b.y - a.y) := by
      by_contra hnot
      refine h ?_
      have hx : b.x - a.x = 0 := by nlinarith [mul_self_nonneg (b.x - a.x), mul_self_nonneg (b.y - a.y)]
      have hy : b.y - a.y = 0 := by nlinarith [mul_self_nonneg (b.x - a.x), mul_self_nonneg (b.y - a.y)]
      cases a
      cases b
      simp only [Pair.mk.injEq] at *
      omega
    have positive := floorRoot_pos (n := ((b.x - a.x) * (b.x - a.x) + (b.y - a.y) * (b.y - a.y)).toNat) (by omega)
    exact Int.ofNat_le.mpr positive
  have quotient : edgeDistance p (a, b) = cross / len := Int.fdiv_eq_ediv_of_nonneg _ (by omega)
  rw [quotient]
  exact ⟨long, Int.ediv_mul_le _ (by omega), Int.lt_ediv_add_one_mul_self _ (by omega)⟩

theorem leastDistance_spec (p : Pair) {es : List (Pair × Pair)} (h : es ≠ []) :
    (∃ e ∈ es, leastDistance p es = edgeDistance p e) ∧ ∀ e ∈ es, leastDistance p es ≤ edgeDistance p e := by
  induction es with
  | nil => exact absurd rfl h
  | cons e rest ih =>
    cases rest with
    | nil => simp [leastDistance]
    | cons e' rest =>
      obtain ⟨⟨f, hf, least⟩, below⟩ := ih (by simp)
      have step : leastDistance p (e :: e' :: rest) = min (edgeDistance p e) (leastDistance p (e' :: rest)) := rfl
      rw [step]
      constructor
      · rcases min_choice (edgeDistance p e) (leastDistance p (e' :: rest)) with left | right
        · exact ⟨e, List.mem_cons_self, left⟩
        · exact ⟨f, List.mem_cons_of_mem _ hf, right.trans least⟩
      · intro g hg
        rcases List.mem_cons.mp hg with rfl | later
        · exact min_le_left _ _
        · exact (min_le_right _ _).trans (below g later)

theorem doubleArea_eq (vs : List Pair) :
    doubleArea vs = ((List.range vs.length).map fun i =>
      (vertexAt vs i).x * (vertexAt vs (i + 1)).y - (vertexAt vs (i + 1)).x * (vertexAt vs i).y).sum := by
  rw [doubleArea, edges_eq, List.map_map]
  rfl

theorem isDegenerate_iff (vs : List Pair) : isDegenerate vs = true ↔ vs.length < 3 ∨ doubleArea vs ≤ 0 := by
  simp [isDegenerate]

/-! ### Feet and P moved together -/

def movedBy (v a : Pair) : Pair := ⟨a.x + v.x, a.y + v.y⟩

theorem movedBy_injective (v : Pair) : (movedBy v).Injective := fun a b h => by
  cases a
  cases b
  simpa [movedBy] using h

theorem edges_map (f : Pair → Pair) (vs : List Pair) : edges (vs.map f) = (edges vs).map (Prod.map f f) := by
  cases vs with
  | nil => rfl
  | cons a rest =>
    have closing : rest.map f ++ [f a] = (rest ++ [a]).map f := by simp
    simp only [edges, List.map_cons, closing, ← List.zip_map]

theorem edges_fst (vs : List Pair) : (edges vs).map Prod.fst = vs := by
  cases vs with
  | nil => rfl
  | cons a rest => exact List.map_fst_zip (by simp)

theorem edges_snd (vs : List Pair) : ((edges vs).map Prod.snd).Perm vs := by
  cases vs with
  | nil => exact .refl _
  | cons a rest =>
    rw [edges, List.map_snd_zip (by simp)]
    exact List.perm_append_singleton a rest

/-- The sum round a closed polygon of the differences of a value at its vertices is 0. -/
theorem edges_sum_differences (g : Pair → Int) (vs : List Pair) : ((edges vs).map fun e => g e.2 - g e.1).sum = 0 := by
  have heads : ((edges vs).map fun e => g e.1) = vs.map g := by
    conv_rhs => rw [← edges_fst vs]
    rw [List.map_map]
    rfl
  have tails : (((edges vs).map fun e => g e.2)).Perm (vs.map g) := by
    have turned := (edges_snd vs).map g
    rwa [List.map_map] at turned
  have split := List.sum_map_add (f := fun e => g e.2 - g e.1) (g := fun e => g e.1) (l := edges vs)
  simp only [sub_add_cancel] at split
  rw [heads, tails.sum_eq] at split
  omega

theorem doubleArea_moved (v : Pair) (vs : List Pair) : doubleArea (vs.map (movedBy v)) = doubleArea vs := by
  have term (e : Pair × Pair) : cross2 (movedBy v e.1) (movedBy v e.2) =
      cross2 e.1 e.2 + ((v.x * e.2.y - e.2.x * v.y) - (v.x * e.1.y - e.1.x * v.y)) := by
    simp only [cross2, movedBy]
    ring
  have closed := edges_sum_differences (fun a => v.x * a.y - a.x * v.y) vs
  calc doubleArea (vs.map (movedBy v))
      = ((edges vs).map fun e => cross2 (movedBy v e.1) (movedBy v e.2)).sum := by
        rw [doubleArea, edges_map, List.map_map]
        rfl
    _ = doubleArea vs := by
        simp only [term, List.sum_map_add, closed, add_zero]
        rfl

theorem isDegenerate_moved (v : Pair) (vs : List Pair) : isDegenerate (vs.map (movedBy v)) = isDegenerate vs := by
  simp only [isDegenerate, List.length_map, doubleArea_moved]

theorem leastDistance_moved (p v : Pair) (es : List (Pair × Pair)) :
    leastDistance (movedBy v p) (es.map (Prod.map (movedBy v) (movedBy v))) = leastDistance p es := by
  have edge (e : Pair × Pair) : edgeDistance (movedBy v p) (Prod.map (movedBy v) (movedBy v) e) = edgeDistance p e := by
    simp only [edgeDistance, movedBy, Prod.map_fst, Prod.map_snd, add_sub_add_right_eq_sub]
  induction es with
  | nil => rfl
  | cons e rest ih =>
    cases rest with
    | nil => exact edge e
    | cons e' rest => exact congrArg₂ min (edge e) ih

theorem marginOf_moved (p v : Pair) (vs : List Pair) : marginOf (movedBy v p) (vs.map (movedBy v)) = marginOf p vs := by
  simp only [marginOf, isDegenerate_moved, edges_map, leastDistance_moved]

/-! ### What the obligation says of lists and margins -/

theorem vertexList_spec (feet : List Pair) :
    let vs := vertexList feet
    vs.Sublist feet ∧ vs.head? = feet.head? ∧ (∀ a ∈ feet, a ∈ vs) ∧
      (∀ (i : Nat) (a : Pair), vs[i]? = some a → vs[i + 1]? ≠ some a) ∧ (2 ≤ vs.length → vs.getLast? ≠ vs.head?) ∧
      ((∀ (i : Nat) (a : Pair), feet[i]? = some a → feet[i + 1]? ≠ some a) →
        (2 ≤ feet.length → feet.getLast? ≠ feet.head?) → vs = feet) := by
  refine ⟨vertexList_sublist feet, head?_vertexList feet, fun a => mem_vertexList, ?_,
    fun two closes => not_closes_vertexList feet ⟨two, closes⟩, fun clean unclosed => ?_⟩
  · exact isChain_ne_iff.mp (isChain_vertexList feet)
  · exact vertexList_of_clean (isChain_ne_iff.mpr clean) fun ⟨two, closes⟩ => unclosed two closes

/-- R34: the margin is the least of the distances, attained at some edge, and clamped. -/
theorem marginOf_spec (p : Pair) (feet : List Pair) (h : isDegenerate (vertexList feet) = false) :
    let vs := vertexList feet
    let distance := fun (i : Nat) (d : Int) =>
      let ex := (vertexAt vs (i + 1)).x - (vertexAt vs i).x
      let ey := (vertexAt vs (i + 1)).y - (vertexAt vs i).y
      let cross := ex * (p.y - (vertexAt vs i).y) - ey * (p.x - (vertexAt vs i).x)
      let len : Int := floorRoot (ex * ex + ey * ey).toNat
      1 ≤ len ∧ d * len ≤ cross ∧ cross < (d + 1) * len
    ∃ i d, i < vs.length ∧ distance i d ∧ (∀ j < vs.length, ∃ e, distance j e ∧ d ≤ e) ∧
      marginOf p vs = max (-1023) (min 1023 d) := by
  intro vs distance
  have three : 3 ≤ vs.length := by
    by_contra few
    rw [(isDegenerate_iff vs).mpr (.inl (by omega))] at h
    cases h
  have two : 2 ≤ vs.length := by omega
  let edge (i : Nat) : Pair × Pair := (vertexAt vs i, vertexAt vs (i + 1))
  have lies (i : Nat) (hi : i < vs.length) : distance i (edgeDistance p (edge i)) :=
    edgeDistance_bounds p (vertexAt_succ_ne (feet := feet) two hi)
  have inside (i : Nat) (hi : i < vs.length) : edge i ∈ edges vs := by
    rw [edges_eq]
    exact List.mem_map_of_mem (List.mem_range.mpr hi)
  obtain ⟨⟨e, he, least⟩, below⟩ := leastDistance_spec p (List.ne_nil_of_mem (inside 0 (by omega)))
  rw [edges_eq] at he
  obtain ⟨i, hi, rfl⟩ := List.mem_map.mp he
  refine ⟨i, _, List.mem_range.mp hi, lies i (List.mem_range.mp hi), fun j hj => ⟨_, lies j hj, ?_⟩, ?_⟩
  · exact least.symm.trans_le (below _ (inside j hj))
  · rw [marginOf, h, if_neg (by decide), least]
    rfl

/-! ### The sway step -/

/-- R37: a step lands on the limit, or past it only lessens the sway. -/
theorem cutAxis_spec {acc limit raw : Int} (h : 0 ≤ limit) :
    let cut := cutAxis acc limit raw
    (acc.natAbs < limit → (-limit ≤ acc + raw → acc + raw ≤ limit → cut = raw) ∧
      (limit < acc + raw → acc + cut = limit) ∧ (acc + raw < -limit → acc + cut = -limit)) ∧
    (limit ≤ acc.natAbs → (acc.natAbs < (acc + raw).natAbs → cut = 0) ∧ ((acc + raw).natAbs ≤ acc.natAbs → cut = raw)) := by
  intro cut
  constructor
  · intro inside
    have parts : cut = if limit < acc + raw then limit - acc else if acc + raw < -limit then -limit - acc else raw :=
      if_neg (by omega)
    rw [parts]
    split_ifs <;> omega
  · intro beyond
    have parts : cut = if acc.natAbs < (acc + raw).natAbs then 0 else raw := if_pos beyond
    rw [parts]
    split_ifs <;> omega

end Sys2Proof.Machine
end

section
/-! ## What an accepted sample publishes (R26, R28, R29, R30, R31, R35) -/

namespace Sys2Proof.Machine

namespace State

variable {s : State}

/-- R154: a TIP raised under the latch, or while a CROUCH runs, is noted and no more. -/
theorem raiseTip_not_taken (h : s.pc.protect = true ∨ s.rxu.crouch ≠ .clear) :
    ∃ dropped hli, s.raiseTip = { s with rxu.dropped := dropped, hli := hli } := by
  by_cases hp : s.pc.protect = true
  · exact ⟨countUp 255 s.rxu.dropped, _, (if_pos hp).trans (postNote_eq _ _)⟩
  · have again : s.raiseTip = s.postNote (.reflex .again .tip none (some .crouch) s.rxu.stack.length) := by
      cases hc : s.rxu.crouch with
      | clear => exact absurd hc (h.resolve_left hp)
      | running => simp [raiseTip, hp, hc]
      | crouched => simp [raiseTip, hp, hc]
    exact ⟨s.rxu.dropped, _, again.trans (postNote_eq _ _)⟩

/-- R39, R40, R142: what a test of TIP does while the context stack has room. -/
theorem tipTest_cases_of_room (hs : s.rxu.stack.length < 4) :
    (∃ condition raised, s.tipTest = { s with scu.tipCondition := condition, scu.tipRaised := raised }) ∨
    ((s.pc.protect = true ∨ s.rxu.crouch ≠ .clear) ∧ ∃ dropped hli,
      s.tipTest = { s with scu.tipCondition := true, scu.tipRaised := true, rxu.dropped := dropped, hli := hli }) ∨
    s.tipTest = s.tipped.beginCrouch := by
  rcases tipTestWith_cases raiseTip s with ⟨-, e⟩ | ⟨-, -, e⟩ | ⟨-, -, hr, e⟩ | ⟨ht, -, -, e⟩
  · exact .inl ⟨s.scu.tipCondition, false, e⟩
  · exact .inl ⟨false, false, e⟩
  · exact .inl ⟨true, s.scu.tipRaised, e⟩
  · right
    by_cases h : s.pc.protect = true ∨ s.rxu.crouch ≠ .clear
    · obtain ⟨dropped, hli, noted⟩ :=
        raiseTip_not_taken (s := { s with scu.tipCondition := true, scu.tipRaised := true }) h
      exact .inl ⟨h, dropped, hli, e.trans noted⟩
    · obtain ⟨hp, hc⟩ := not_or.mp h
      exact .inr (e.trans (raiseTip_taken (s := { s with scu.tipCondition := true, scu.tipRaised := true })
        (standing_of_tipTested ht) (by simpa using hp) (not_not.mp hc) hs))

/-- R54: nothing arrives outside SHIFT. -/
theorem swayEvent_of_not_shift (h : s.ssq.phase ≠ .shift) : s.swayEvent = s := by
  unfold swayEvent
  split
  · rename_i hphase _
    exact absurd hphase h
  · rfl

/-- R39, R40, R41: the marks that a test of TIP writes; the rest of the support stays. -/
def unmarked (u : Support) : Support :=
  { u with tipCondition := false, tipRaised := false, survey := false, surveyTimer := none }

theorem tipTest_support (hs : s.rxu.stack.length < 4) : unmarked s.tipTest.scu = unmarked s.scu := by
  rcases tipTest_cases_of_room hs with ⟨c, r, e⟩ | ⟨-, d, hli, e⟩ | e
  · rw [e]
    rfl
  · rw [e]
    rfl
  · rw [e, beginCrouch_eq]
    exact (congrArg unmarked (crouchAll_scu s.tipped) :)

theorem tipTest_not_shift (hs : s.rxu.stack.length < 4) (h : s.ssq.phase ≠ .shift) : s.tipTest.ssq.phase ≠ .shift := by
  rcases tipTest_cases_of_room hs with ⟨c, r, e⟩ | ⟨-, d, hli, e⟩ | e
  · rwa [e]
  · rwa [e]
  · have idle : s.tipped.beginCrouch.ssq.phase = .idle := congrArg Strider.phase (crouchAll_uncommanded _)
    rw [e, idle]
    decide

/-- What an accepted sample publishes over a state, in the terms of the statement. -/
def Publishes (s : State) (u : Support) : Prop :=
  let level := decide (2048 ≤ -u.dbar.dz)
  let legs := Leg.all.filter s.inStance
  u.zf = (if legs = [] then s.pc.geom.stand else (legs.map fun l => (s.footOf l).z).sum.tdiv legs.length) ∧
  u.h = max (s.pc.geom.cz - u.zf) 50 ∧
  (level = true → u.pHeld = false ∧
    u.shift = ⟨slopeShift u.dbar.dx u.h (-u.dbar.dz), slopeShift u.dbar.dy u.h (-u.dbar.dz)⟩ ∧
    u.p = ⟨s.pc.geom.cx + u.shift.x + s.scu.sway.x, s.pc.geom.cy + u.shift.y + s.scu.sway.y⟩) ∧
  (level = false → u.pHeld = !s.scu.margin.notReady ∧ u.shift = s.scu.shift ∧ u.p = s.scu.p) ∧
  u.margin.notReady = (s.scu.margin.notReady && !level) ∧
  u.margin.degenerate = isDegenerate (feetOf s fun _ => true) ∧
  u.margin.value = (if u.margin.notReady = true then -1023 else marginOf u.p (feetOf s fun _ => true)) ∧
  u.stance = s.scu.stance ∧ u.sway = s.scu.sway

/-- It says nothing of the marks. -/
theorem publishes_unmarked {u : Support} : Publishes s (unmarked u) ↔ Publishes s u := Iff.rfl

/-- R26: a recomputation publishes it once a sample has been accepted. -/
theorem recompute_publishes (hslots : s.atp.slots.isSome = true) : Publishes s s.recompute.scu := by
  unfold Publishes
  intro level legs
  have plane : s.recompute.scu.zf = s.footPlane := rfl
  refine ⟨?_, rfl, fun hl => ?_, fun hl => ?_, ?_, rfl, rfl, rfl, rfl⟩
  · rw [plane]
    simp only [footPlane, stanceList, List.isEmpty_iff, legs]
  · have tilt : s.tiltOk = true := hl
    simp only [recompute, tilt, if_true, Bool.not_true, Bool.false_and, and_true]
  · have tilt : s.tiltOk = false := hl
    simp [recompute, tilt]
  · have ready : s.recompute.scu.margin.notReady =
        (s.scu.margin.notReady && !(s.tiltOk && s.atp.slots.isSome)) := rfl
    rw [ready, hslots, Bool.and_true]
    rfl

/-- R26, R35: so does an accepted sample outside SHIFT. -/
theorem accepted_publishes {v : Sample} (hphase : s.ssq.phase ≠ .shift) (hs : s.rxu.stack.length < 4) :
    Publishes s (sampled s v).tipTest.swayEvent.scu := by
  have published : Publishes s (sampled s v).scu :=
    recompute_publishes
      (s := { s with atp := { s.atp with slots := some (Slots.push s.atp.slots v), since := 0, reading := false },
                     scu.dbar := (Slots.push s.atp.slots v).average, scu.attStale := false, scu.tipStale := false }) rfl
  rw [swayEvent_of_not_shift (tipTest_not_shift (s := sampled s v) hs hphase), ← publishes_unmarked,
    tipTest_support (s := sampled s v) hs]
  exact publishes_unmarked.mpr published

end State
end Sys2Proof.Machine
end

section
/-! ## A settled SHIFT: the sway step and the end by NO_MARGIN (R36, R37, R55) -/

namespace Sys2Proof.Machine

theorem Strider.eq_of_uncommanded {x y : Strider} (h : x.uncommanded = y.uncommanded) (hv : x.verified = y.verified) :
    x = { y with cmd := x.cmd } := by
  cases x
  cases y
  simp only [uncommanded, Strider.mk.injEq] at *
  tauto

namespace State

variable {s : State} {l : Leg}

/-! ### The sway step -/

/-- R55, R61: one leg moved, if it is in mode STANCE. -/
def moveLeg (f : Point → Point) (s : State) (l : Leg) : State :=
  if s.modeOf l = .stance then s.setTarget l (f (s.cmdOf l).target) else s

/-- The command of a leg so moved. -/
def movedCmd (f : Point → Point) (s : State) (k : Leg) : LegCmd :=
  if s.modeOf k = .stance then
    { mode := .stance, target := clampPoint (f (s.cmdOf k).target), clearance := (s.cmdOf k).clearance }
  else s.cmdOf k

theorem moveLeg_cmdOf_self (f : Point → Point) (s : State) (l : Leg) : (s.moveLeg f l).cmdOf l = s.movedCmd f l := by
  unfold moveLeg movedCmd
  split
  · rename_i h
    rw [setTarget, setCmd_cmdOf_self, h]
  · rfl

theorem moveLeg_cmdOf_of_ne (f : Point → Point) (s : State) {k l : Leg} (h : k ≠ l) :
    (s.moveLeg f l).cmdOf k = s.cmdOf k := by
  unfold moveLeg
  split
  · exact setCmd_cmdOf_of_ne s _ _ _ h
  · rfl

theorem moveStance_cmdOf (f : Point → Point) (s : State) (k : Leg) : (s.moveStance f).cmdOf k = s.movedCmd f k := by
  refine foldl_all_reads cmdOf (movedCmd f) (moveLeg_cmdOf_self f) (moveLeg_cmdOf_of_ne f) (fun s k l hk => ?_) k
  have same := moveLeg_cmdOf_of_ne f s hk
  have mode : (s.moveLeg f l).modeOf k = s.modeOf k := congrArg LegCmd.mode same
  unfold movedCmd
  rw [mode, same]

theorem moveStance_ssq (f : Point → Point) (s : State) :
    (s.moveStance f).ssq = { s.ssq with cmd := (s.moveStance f).ssq.cmd } := by
  refine Strider.eq_of_uncommanded ?_ ?_
  · refine foldl_keeps (fun s => s.ssq.uncommanded) (fun s l => ?_) _ s
    split
    · exact setCmd_uncommanded ..
    · rfl
  · refine foldl_keeps (fun s => s.ssq.verified) (fun s l => ?_) _ s
    split
    · exact setTarget_verified ..
    · rfl

theorem moveStance_rxu (f : Point → Point) (s : State) : (s.moveStance f).rxu = s.rxu := by
  refine foldl_keeps State.rxu (fun s l => ?_) _ s
  split
  · rename_i h
    exact setCmd_rxu (by simp [h]) s l _ _
  · rfl

/-- R55: the move that a step asks of a stance target. -/
def swayed (step : Pair) : Point → Point := fun p => { p with x := p.x - step.x, y := p.y - step.y }

/-- R55: the accumulator and the stall timer. -/
def swayCounted (s : State) (step : Pair) : State :=
  { s with scu.sway := ⟨s.scu.sway.x + step.x, s.scu.sway.y + step.y⟩, ssq.phaseTimer := some 0 }

theorem applySway_eq (s : State) (step : Pair) : s.applySway step = (s.moveStance (swayed step)).swayCounted step := by
  unfold applySway swayCounted swayed
  generalize s.moveStance _ = q
  rfl

theorem swayCounted_cmdOf (s : State) (step : Pair) (k : Leg) : (s.swayCounted step).cmdOf k = s.cmdOf k := rfl

theorem applySway_scu (s : State) (step : Pair) :
    (s.applySway step).scu = { s.scu with sway := ⟨s.scu.sway.x + step.x, s.scu.sway.y + step.y⟩ } := by
  rw [applySway_eq, swayCounted, moveStance_scu]

theorem applySway_ssq (s : State) (step : Pair) :
    (s.applySway step).ssq = { s.ssq with phaseTimer := some 0, cmd := (s.applySway step).ssq.cmd } := by
  have kept := moveStance_ssq (swayed step) s
  rw [applySway_eq]
  generalize s.moveStance (swayed step) = q at *
  unfold swayCounted
  rw [kept]

theorem applySway_cmdOf (s : State) (step : Pair) (k : Leg) :
    (s.applySway step).cmdOf k = s.movedCmd (swayed step) k := by
  rw [applySway_eq, swayCounted_cmdOf, moveStance_cmdOf]

/-- R55: a leg in mode STANCE is moved against the step. -/
theorem applySway_cmdOf_of_stance (step : Pair) {k : Leg} (h : s.modeOf k = .stance) :
    (s.applySway step).cmdOf k =
      { mode := .stance, target := clampPoint (swayed step (s.cmdOf k).target), clearance := (s.cmdOf k).clearance } := by
  rw [applySway_cmdOf, movedCmd, if_pos h]

theorem applySway_cmdOf_of_ne (step : Pair) {k : Leg} (h : s.modeOf k ≠ .stance) :
    (s.applySway step).cmdOf k = s.cmdOf k := by
  rw [applySway_cmdOf, movedCmd, if_neg h]

/-- R55: the step leaves the other blocks alone. -/
theorem applySway_rest (s : State) (step : Pair) :
    let t := s.applySway step
    t.pc = s.pc ∧ t.pls = s.pls ∧ t.rxu = s.rxu ∧ t.fhq = s.fhq ∧ t.ztb = s.ztb ∧ t.tdu = s.tdu ∧ t.hli = s.hli := by
  have pc := moveStance_pc s (swayed step)
  have pls := moveStance_pls s (swayed step)
  have rxu := moveStance_rxu (swayed step) s
  have fhq := moveStance_fhq s (swayed step)
  have ztb := moveStance_ztb s (swayed step)
  have tdu := moveStance_tdu s (swayed step)
  have hli := moveStance_hli s (swayed step)
  rw [applySway_eq]
  generalize s.moveStance (swayed step) = q at *
  exact ⟨pc, pls, rxu, fhq, ztb, tdu, hli⟩

/-! ### A change of the body state without a TIP -/

theorem bodySettled_same {b : BodyState} (h : s.pc.body = b) : s.bodySettled b = s := by
  unfold bodySettled
  rw [if_pos h]

/-- R40, R140: the test finds no TIP, and no rise waits. -/
theorem bodySettled_of_clear {b : BodyState} (h : s.pc.body ≠ b) (ht : s.tipTested = true) (hh : s.tipHolds = false)
    (hw : s.rxu.waiting = false) : s.bodySettled b = { s with scu.tipCondition := false, scu.tipRaised := false } := by
  unfold bodySettled
  rw [if_neg h, tipTest_of_clear ht hh]
  simp [hw]

/-- R53, R89: into HOLD, from WALK or STAND, with the notes of the line before. -/
def held (s : State) (line : State) : State :=
  { s with pc.body := .hold, hli := (line.postNote (.body s.pc.body .hold .fault)).hli,
           scu := { s.scu with tipCondition := false, tipRaised := false, survey := false, surveyTimer := none } }

theorem setBody_hold_settled {line : State} (hb : s.pc.body = .walk ∨ s.pc.body = .stand) (hh : s.tipHolds = false)
    (hw : s.rxu.waiting = false) (hl : s.hli = line.hli) :
    (s.setBody .hold .fault).bodySettled s.pc.body = s.held line := by
  have may : s.pc.body.mayBecome .hold = true := by
    rcases hb with h | h <;> rw [h] <;> decide
  have changed : BodyState.hold ≠ s.pc.body := by
    rcases hb with h | h <;> rw [h] <;> decide
  have noted : s.setBody .hold .fault =
      { s with pc.body := .hold, scu.survey := false, scu.surveyTimer := none,
               hli := (line.postNote (.body s.pc.body .hold .fault)).hli } := by
    rw [setBody_of_standing _ may rfl (by decide), if_neg changed, ← postNote_hli_congr _ hl]
    exact postNote_eq_of_hli _ rfl
  rw [noted]
  exact bodySettled_of_clear changed rfl hh hw

/-! ### NO_MARGIN -/

/-- R55: the note that names the stepping leg. -/
def marginless (s : State) (l : Leg) : State := s.postNote (.fault .noMargin (some l) none)

theorem marginless_eq (s : State) (l : Leg) : s.marginless l = { s with hli := (s.marginless l).hli } := postNote_eq _ _

theorem marginless_owner (s : State) (l : Leg) : (s.marginless l).owner = s.owner := by rw [marginless_eq]; rfl

theorem owner_of_striding (h : Striding s) : s.owner = .stride := by
  obtain ⟨running, reseat⟩ := h
  simp [owner, running, reseat]

theorem owner_of_reseat (hr : s.rxu.running = none) (h : s.pls.reseat = true) : s.owner = .reseat := by
  simp [owner, hr, h]

theorem owner_of_reflex {r : Running} (h : s.rxu.running = some r) : s.owner = .reflex := by
  simp [owner, h]

/-- R55, R53: a walk holds before the step. -/
theorem shiftFailed_of_stride (ho : s.owner = .stride) (hb : s.pc.body = .walk) (hw : s.rxu.waiting = false)
    (hh : s.tipHolds = false) :
    s.shiftFailed .noMargin l = held { s.idlePhase with ssq.next := some ⟨l, s.ssq.index⟩ } (s.marginless l) := by
  have parts : s.shiftFailed .noMargin l =
      ((s.marginless l).enterHold ⟨l, (s.marginless l).ssq.index⟩ .fault).bodySettled (s.marginless l).pc.body := by
    have owned := (s.marginless_owner l).trans ho
    unfold marginless at owned
    unfold shiftFailed postFault
    simp only [owned]
    rfl
  rw [parts, marginless_eq]
  generalize (s.marginless l).hli = line
  exact setBody_hold_settled (s := { s.idlePhase with ssq.next := some ⟨l, s.ssq.index⟩, hli := line })
    (line := { s with hli := line }) (.inl hb) hh hw rfl

/-- R89: the notes of a procedure that fails in its SHIFT. -/
def reseatFailNoted (s : State) (l : Leg) : State := (s.marginless l).postNote (.fault .reseatFail none none)

theorem shiftFailed_of_reseat (ho : s.owner = .reseat) :
    s.shiftFailed .noMargin l = (s.marginless l).reseatFail.bodySettled (s.marginless l).pc.body := by
  have owned := (s.marginless_owner l).trans ho
  unfold marginless at owned
  unfold shiftFailed postFault
  simp only [owned]
  rfl

theorem marginless_reseatGivenUp (s : State) (l : Leg) :
    (s.marginless l).reseatGivenUp = { s.unreseated with hli := (s.reseatFailNoted l).hli } := by
  have line : (s.marginless l).unreseated.hli = (s.marginless l).hli := rfl
  unfold reseatGivenUp reseatFailNoted
  rw [postNote_eq, postNote_hli_congr _ line, marginless_eq]
  rfl

/-- R55, R89: the procedure fails from STAND, into HOLD. -/
theorem shiftFailed_of_reseat_stand (ho : s.owner = .reseat) (horigin : s.pls.origin = .stand)
    (hb : s.pc.body = .stand) (hw : s.rxu.waiting = false) (hh : s.tipHolds = false) :
    s.shiftFailed .noMargin l =
      held { s.unreseated with ssq.count := 0, ssq.next := none } (s.reseatFailNoted l) := by
  have origin : (s.marginless l).pls.origin = .stand := by rw [marginless_eq]; exact horigin
  have body : (s.marginless l).pc.body = s.pc.body := by rw [marginless_eq]
  rw [shiftFailed_of_reseat ho, reseatFail_of_stand origin, marginless_reseatGivenUp, body]
  exact setBody_hold_settled
    (s := { s.unreseated with ssq.count := 0, ssq.next := none, hli := (s.reseatFailNoted l).hli }) (.inr hb) hh hw rfl

/-- R55, R89: the procedure fails from another state, which stays. -/
theorem shiftFailed_of_reseat_ne (ho : s.owner = .reseat) (horigin : s.pls.origin ≠ .stand) :
    s.shiftFailed .noMargin l = { s.unreseated with hli := (s.reseatFailNoted l).hli } := by
  have origin : (s.marginless l).pls.origin ≠ .stand := by rw [marginless_eq]; exact horigin
  have body : (s.marginless l).pc.body = s.pc.body := by rw [marginless_eq]
  rw [shiftFailed_of_reseat ho, reseatFail_of_ne origin, marginless_reseatGivenUp, body]
  exact bodySettled_same rfl

/-- R152: the notes of a leg reseat of a reflex that fails. -/
def reflexFailNoted (s : State) (r : Running) (l : Leg) : State :=
  (s.marginless l).postNote (.reflex .failed r.trigger r.leg (some r.kind) 0)

/-- R55, R91, R152: a leg reseat of a reflex that interrupted STAND fails, and STAND is resumed. -/
theorem shiftFailed_of_reflex {r : Running} (hr : s.rxu.running = some r) (hstage : r.stage = .reseat)
    (hb : s.pc.body = .recover) (hs : s.rxu.stack = [.stand]) (hp : s.rxu.pending = []) (hh : s.tipHolds = false) :
    (s.shiftFailed .noMargin l).pose =
        s.endedPose .stand ((s.reflexFailNoted r l).postNote (.body .recover .stand .done)).hli ∧
      (s.shiftFailed .noMargin l).ssq = { s.ssq with phase := .idle, stepping := none, phaseTimer := none } ∧
      (s.shiftFailed .noMargin l).pls = { s.pls with reseatSet := [], reseatLeg := none } := by
  have settles : s.shiftFailed .noMargin l = settle { s.idlePhase with hli := (s.marginless l).hli } .failed := by
    have owned := (s.marginless_owner l).trans (owner_of_reflex hr)
    have running : (s.marginless l).rxu.running = some r := by rw [marginless_eq]; exact hr
    have same : (s.marginless l).idlePhase = { s.idlePhase with hli := (s.marginless l).hli } := by
      rw [marginless_eq]
      rfl
    rw [← same]
    unfold marginless at owned running ⊢
    unfold shiftFailed postFault stageLegDone
    simp only [owned, running, hstage]
    rfl
  rw [settles]
  generalize hq : { s.idlePhase with hli := (s.marginless l).hli } = q
  have running : q.rxu.running = some r := by rw [← hq]; exact hr
  have stack : q.rxu.stack = [.stand] := by rw [← hq]; exact hs
  have pending : q.rxu.pending = [] := by rw [← hq]; exact hp
  have steady : q.tipHolds = false := by rw [← hq]; exact hh
  have body : q.pc.body = .recover := by rw [← hq]; exact hb
  have line : q.hli = (s.marginless l).hli := by rw [← hq]
  have poses : ∀ b x, q.endedPose b x = s.endedPose b x := fun b x => by rw [← hq]; rfl
  have noted : (s.reflexFailNoted r l).hli = (q.postNote (.reflex .failed r.trigger r.leg (some r.kind) 0)).hli :=
    (postNote_hli_congr _ line).symm
  obtain ⟨t, settled, pose, ssq, pls⟩ :=
    settle_over_one_context (s := q) (u := (q.popped r [] true).setBody .stand .done) (v := .failed) running stack pending
      steady (by decide) (by decide) rfl
      (setBody_endedPose .done (popped_endedPose (f := true) body noted) rfl rfl (by decide))
  rw [settled, pose, ssq, pls, poses]
  refine ⟨rfl, ?_, ?_⟩
  · rw [setBody_ssq, popped_ssq, ← hq]
    rfl
  · rw [setBody_pls, popped_pls, ← hq]
    rfl

end State
end Sys2Proof.Machine
end

section
/-! ## A settled SHIFT: the lift (R56, R58, R101) -/

namespace Sys2Proof.Machine

namespace State

variable {s : State} {l : Leg}

/-! ### The stance set derived again after a lift -/

theorem reflexes_eq_of_unlisted {x y : Reflexes} (h : x.unlisted = y.unlisted) (hp : x.pending = y.pending) : x = y := by
  cases x
  cases y
  simp only [Reflexes.unlisted, Reflexes.mk.injEq] at *
  tauto

theorem restanced_rxu (hp : s.rxu.pending = []) : s.restanced.rxu = s.rxu := by
  have empty : s.restanced.rxu.pending = [] := List.sublist_nil.mp (hp ▸ restanced_sublist s)
  exact reflexes_eq_of_unlisted (restanced_unlisted s) (empty.trans hp.symm)

/-- R26, R36: a recomputation writes neither the record of the predicted margin nor the sway. -/
theorem restanced_asked (s : State) :
    (s.restanced.scu.predicted, s.restanced.scu.predictedLeg) = (s.scu.predicted, s.scu.predictedLeg) :=
  foldl_keeps (fun s => (s.scu.predicted, s.scu.predictedLeg)) (fun s l => by simp) _ _

/-- R27, R39: what a stance update after a lift leaves, a TIP that it brings and a CROUCH takes apart. -/
structure Updated (s t : State) : Prop where
  predicted : t.scu.predicted = s.scu.predicted
  predictedLeg : t.scu.predictedLeg = s.scu.predictedLeg
  sway : t.scu.sway = s.scu.sway
  calm : t.rxu.crouch = .clear →
    t.pc = s.pc ∧ t.ssq = s.ssq ∧ t.fhq = s.fhq ∧ t.rxu = s.rxu ∧ t.scu.stance = s.stanceDerived

theorem stanceUpdate_updated (hprotect : s.pc.protect = false) (hc : s.rxu.crouch = .clear) (hs : s.rxu.stack.length < 4)
    (hp : s.rxu.pending = []) : Updated s s.stanceUpdate := by
  rcases stanceUpdateWith_cases tipTest s with ⟨current, e⟩ | ⟨-, e⟩
  · unfold stanceUpdate
    rw [e]
    exact ⟨rfl, rfl, rfl, fun _ => ⟨rfl, rfl, rfl, rfl, current.symm⟩⟩
  · have same := restanced_rxu hp
    have room : s.restanced.rxu.stack.length < 4 := by rwa [same]
    have support := tipTest_support room
    obtain ⟨predicted, leg⟩ := Prod.mk.inj (restanced_asked s)
    unfold stanceUpdate
    rw [e]
    refine ⟨(congrArg Support.predicted support :).trans predicted, (congrArg Support.predictedLeg support :).trans leg,
      (congrArg Support.sway support :).trans (restanced_sway s), fun hclear => ?_⟩
    rcases tipTest_cases_of_room room with ⟨c, r, e'⟩ | ⟨h, -⟩ | e'
    · rw [e']
      exact ⟨restanced_pc s, restanced_ssq s, restanced_fhq s, same, restanced_stance s⟩
    · rw [restanced_pc, same] at h
      simp [hprotect, hc] at h
    · rw [e', beginCrouch_eq] at hclear
      cases hclear

/-! ### The lift -/

/-- R58, R101: the SWING begun, and the head of the leg's queue marked. -/
def lifting (s : State) (l : Leg) : State :=
  { s.markHead l with ssq.phase := .swing, ssq.phaseTimer := some 0 }

/-- R58: the leg commanded up. -/
def liftCommanded (s : State) (l : Leg) : State :=
  (s.lifting l).setCmd l .swing (s.liftTarget l) s.liftClearance

theorem otherInAir_of_none (h : ∀ k, ¬ s.inAir k) (l : Leg) : s.otherInAir l = false := by
  refine Bool.eq_false_iff.mpr fun other => ?_
  obtain ⟨k, -, hk⟩ := List.any_eq_true.mp other
  obtain ⟨-, air⟩ : k ≠ l ∧ s.inAir k := by simpa [inAir] using hk
  exact h k air

theorem liftStride_eq (hlink : (s.link l).link = .ok) (hair : ∀ k, ¬ s.inAir k) (hprotect : s.pc.protect = false) :
    s.liftStride l = (s.liftCommanded l).stanceUpdate := by
  have alone := otherInAir_of_none hair l
  have may : s.mayLift l = true := by simp [mayLift, linkOk, hlink, alone, hprotect]
  have commanded : (s.lifting l).airCmd l .swing (s.liftTarget l) s.liftClearance = s.liftCommanded l := by
    have free : (s.lifting l).otherInAir l = false := alone
    rw [airCmd, free]
    rfl
  rw [← commanded, liftStride, if_pos may]
  rfl

/-- R52, R56: nothing holds the walk at the boundary before the lift. -/
theorem boundary_lift_eq (hstep : s.ssq.stepping = some l) (hstop : s.ssq.stopMark = false)
    (hw : s.rxu.waiting = false) (hp : s.rxu.pending = []) (hhot : s.tdu.body < 3) (hstale : s.scu.attStale = false) :
    s.boundary .lift = s.liftStride l := by
  have still : s.enablesAtBoundary = s := by simp [enablesAtBoundary, hw]
  have nothing : s.mayTakePending = false := by simp [mayTakePending, hp]
  have free : s.mustHold = false := by simp [mustHold, hp, hhot, hstale]
  rw [boundary_eq, still, hstop, nothing, free]
  simp [goOn, hstep]

/-! ### The queue -/

theorem markHead_fhq_of_empty (h : (s.queueOf l).entries = []) : (s.markHead l).fhq = s.fhq := by
  refine PerLeg.ext_get fun k => (PerLeg.get_modify ..).trans ?_
  split
  · rename_i same
    subst same
    change (s.fhq.get k).entries = [] at h
    simp only [h]
  · rfl

theorem markHead_entries {e : Foothold} {rest : List Foothold} (h : (s.queueOf l).entries = e :: rest) :
    ((s.markHead l).queueOf l).entries = { e with inUse := true } :: rest := by
  change (s.fhq.get l).entries = e :: rest at h
  simp only [queueOf, markHead, PerLeg.get_modify_self, h]

theorem markHead_queueOf_of_ne {k : Leg} (h : k ≠ l) : (s.markHead l).queueOf k = s.queueOf k :=
  PerLeg.get_modify_of_ne _ _ h

/-! ### The target -/

/-- R57: half an effective step ahead of the hip, and the widening outward of it. -/
theorem nominalTarget_eq (s : State) (l : Leg) :
    s.nominalTarget l =
      ⟨(s.pc.geom.hip.get l).x + (if s.ssq.dir = .forward then 1 else -1) * s.ssq.latched.effective.tdiv 2,
       (s.pc.geom.hip.get l).y + (if l = .lf ∨ l = .lh then s.pc.geom.widening else -s.pc.geom.widening),
       s.pc.geom.stand⟩ := by
  have sign : s.ssq.dir.sign = if s.ssq.dir = .forward then 1 else -1 := by cases s.ssq.dir <;> rfl
  have side : outward l * s.pc.geom.widening =
      if l = .lf ∨ l = .lh then s.pc.geom.widening else -s.pc.geom.widening := by
    cases l <;> simp [outward]
  rw [← sign, ← side]
  rfl

theorem liftTarget_of_empty (h : (s.queueOf l).entries = []) : s.liftTarget l = s.nominalTarget l := by
  simp [liftTarget, headOf, h]

theorem liftTarget_of_cons {e : Foothold} {rest : List Foothold} (h : (s.queueOf l).entries = e :: rest) :
    s.liftTarget l =
      ⟨(s.nominalTarget l).x + e.dx, (s.nominalTarget l).y + e.dy, (s.nominalTarget l).z + e.dz⟩ := by
  simp [liftTarget, headOf, h]

theorem liftClearance_eq (s : State) :
    s.liftClearance = if s.ssq.latched.surface = .stair then max s.ssq.latched.clearance 200
      else s.ssq.latched.clearance := by
  unfold liftClearance
  cases h : s.ssq.latched.surface <;> rfl

/-! ### What the lift commands -/

theorem liftCommanded_cmdOf_self (s : State) (l : Leg) :
    (s.liftCommanded l).cmdOf l =
      { mode := .swing, target := clampPoint (s.liftTarget l), clearance := s.liftClearance } :=
  setCmd_cmdOf_self ..

theorem liftCommanded_cmdOf_of_ne (s : State) {k l : Leg} (h : k ≠ l) : (s.liftCommanded l).cmdOf k = s.cmdOf k :=
  setCmd_cmdOf_of_ne _ _ _ _ h

theorem liftCommanded_rxu (s : State) (l : Leg) : (s.liftCommanded l).rxu = s.rxu := setCmd_rxu (by decide) _ _ _ _

theorem liftCommanded_fhq (s : State) (l : Leg) : (s.liftCommanded l).fhq = (s.markHead l).fhq := setCmd_fhq ..

theorem liftCommanded_pc (s : State) (l : Leg) : (s.liftCommanded l).pc = s.pc := setCmd_pc ..

theorem liftCommanded_scu (s : State) (l : Leg) : (s.liftCommanded l).scu = s.scu := setCmd_scu ..

theorem liftCommanded_uncommanded (s : State) (l : Leg) :
    (s.liftCommanded l).ssq.uncommanded = { s.ssq.uncommanded with phase := .swing, phaseTimer := some 0 } :=
  setCmd_uncommanded ..

/-- R47: a leg that goes into SWING is no longer verified. -/
theorem setCmd_swing_verifiedOf (h : s.modeOf l ≠ .swing) (p : Point) (c : Int) :
    (s.setCmd l .swing p c).verifiedOf l = false := by
  have mode : ¬ LegMode.swing = (s.cmdOf l).mode := fun e => h e.symm
  have new : ¬ (⟨.swing, clampPoint p, c⟩ : LegCmd) = s.cmdOf l := fun e => mode (congrArg LegCmd.mode e)
  have told : ∀ q : State, ((q.modeChanged l .swing).handToLink l).verifiedOf l = false := fun q => by
    rw [verifiedOf, handToLink_ssq]
    exact setVerified_verifiedOf_self _ l false
  unfold setCmd
  simp only [new, mode, if_false]
  exact told _

theorem liftCommanded_verifiedOf (h : ¬ s.inAir l) : (s.liftCommanded l).verifiedOf l = false :=
  setCmd_swing_verifiedOf (s := s.lifting l) (fun e => h (.inl e)) _ _

/-- R27: a leg in SWING stands in no stance set. -/
theorem liftCommanded_stanceDerived (s : State) (l : Leg) : (s.liftCommanded l).stanceDerived.get l = false := by
  simp [stanceDerived, modeOf, liftCommanded_cmdOf_self]

/-- R56, R58: the lift of a stride step; where no CROUCH runs after it, the leg is in SWING. -/
theorem boundary_lift_spec (hstep : s.ssq.stepping = some l) (hprotect : s.pc.protect = false)
    (hc : s.rxu.crouch = .clear) (hs : s.rxu.stack = []) (hstop : s.ssq.stopMark = false)
    (hw : s.rxu.waiting = false) (hp : s.rxu.pending = []) (hhot : s.tdu.body < 3) (hstale : s.scu.attStale = false)
    (hlink : (s.link l).link = .ok) (hair : ∀ k, ¬ s.inAir k) :
    Updated (s.liftCommanded l) (s.boundary .lift) := by
  rw [boundary_lift_eq hstep hstop hw hp hhot hstale, liftStride_eq hlink hair hprotect]
  refine stanceUpdate_updated ?_ ?_ ?_ ?_
  · rwa [liftCommanded_pc]
  · rwa [liftCommanded_rxu]
  · rw [liftCommanded_rxu, hs]
    decide
  · rwa [liftCommanded_rxu]

/-- R58, R101: the target and the queue of the leg lifted, with and without an entry. -/
theorem lifted_target {t : State} (hcmd : (t.cmdOf l).target = clampPoint (s.liftTarget l))
    (hfhq : t.fhq = (s.markHead l).fhq) :
    let reach := (if s.ssq.dir = .forward then 1 else -1) * s.ssq.latched.effective.tdiv 2
    let out := if l = .lf ∨ l = .lh then s.pc.geom.widening else -s.pc.geom.widening
    let n : Point := ⟨(s.pc.geom.hip.get l).x + reach, (s.pc.geom.hip.get l).y + out, s.pc.geom.stand⟩
    ((s.queueOf l).entries = [] → (t.cmdOf l).target = clampPoint n ∧ t.fhq = s.fhq) ∧
    (∀ e rest, (s.queueOf l).entries = e :: rest →
      (t.cmdOf l).target = clampPoint ⟨n.x + e.dx, n.y + e.dy, n.z + e.dz⟩ ∧
      (t.queueOf l).entries = { e with inUse := true } :: rest) := by
  intro reach out n
  have nominal : s.nominalTarget l = n := nominalTarget_eq s l
  refine ⟨fun empty => ⟨?_, hfhq.trans (markHead_fhq_of_empty empty)⟩, fun e rest head => ⟨?_, ?_⟩⟩
  · rw [hcmd, liftTarget_of_empty empty, nominal]
  · rw [hcmd, liftTarget_of_cons head, nominal]
  · exact (congrArg (fun q => (PerLeg.get q l).entries) hfhq).trans (markHead_entries head)

/-- R58: the lift as it stands where no CROUCH has taken its place. -/
theorem Updated.lifted {t : State} (h : Updated (s.liftCommanded l) t) (hclear : t.rxu.crouch = .clear)
    (hair : ¬ s.inAir l) :
    t.ssq.uncommanded = { s.ssq.uncommanded with phase := .swing, phaseTimer := some 0 } ∧
      t.cmdOf l = { mode := .swing, target := clampPoint (s.liftTarget l), clearance := s.liftClearance } ∧
      t.verifiedOf l = false ∧ t.inStance l = false ∧ t.fhq = (s.markHead l).fhq ∧
      (∀ k, k ≠ l → t.cmdOf k = s.cmdOf k) ∧ t.pc = s.pc ∧ t.rxu = s.rxu := by
  obtain ⟨pc, ssq, fhq, rxu, stance⟩ := h.calm hclear
  have command (k : Leg) : t.cmdOf k = (s.liftCommanded l).cmdOf k := congrArg (fun x => PerLeg.get (Strider.cmd x) k) ssq
  have flag : t.verifiedOf l = (s.liftCommanded l).verifiedOf l :=
    congrArg (fun x => PerLeg.get (Strider.verified x) l) ssq
  exact ⟨(congrArg Strider.uncommanded ssq).trans (liftCommanded_uncommanded s l),
    (command l).trans (liftCommanded_cmdOf_self s l), flag.trans (liftCommanded_verifiedOf hair),
    (congrArg (PerLeg.get · l) stance).trans (liftCommanded_stanceDerived s l), fhq.trans (liftCommanded_fhq s l),
    fun k hk => (command k).trans (liftCommanded_cmdOf_of_ne s hk), pc.trans (liftCommanded_pc s l),
    rxu.trans (liftCommanded_rxu s l)⟩

end State
end Sys2Proof.Machine
end

section
/-! ## An accepted sample in a settled SHIFT -/

namespace Sys2Proof.Machine

namespace State

variable {s : State} {v : Sample} {l : Leg}

/-! ### The margin test -/

/-- R55: below the threshold. -/
theorem swayOrLift_of_low (h : (s.predictedMargin l).value < s.ssq.latched.threshold) :
    s.swayOrLift l =
      if s.swayStep l s.ssq.latched.swayLimit = Pair.zero then (s.recordPredicted l).shiftFailed .noMargin l
      else (s.recordPredicted l).applySway (s.swayStep l s.ssq.latched.swayLimit) := by
  have low : ¬ (s.recordPredicted l).ssq.latched.threshold ≤ (s.predictedMargin l).value := not_le.mpr h
  exact if_neg low

theorem swayOrLift_of_sway {step : Pair} (h : (s.predictedMargin l).value < s.ssq.latched.threshold)
    (hstep : s.swayStep l s.ssq.latched.swayLimit = step) (hne : step ≠ ⟨0, 0⟩) :
    s.swayOrLift l = (s.recordPredicted l).applySway step := by
  rw [swayOrLift_of_low h, hstep]
  exact if_neg hne

theorem swayOrLift_of_no_margin (h : (s.predictedMargin l).value < s.ssq.latched.threshold)
    (hstep : s.swayStep l s.ssq.latched.swayLimit = ⟨0, 0⟩) :
    s.swayOrLift l = (s.recordPredicted l).shiftFailed .noMargin l := by
  rw [swayOrLift_of_low h, hstep]
  exact if_pos rfl

/-- R56: at or above it. -/
theorem swayOrLift_of_margin (h : s.ssq.latched.threshold ≤ (s.predictedMargin l).value) (ho : s.owner = .stride) :
    s.swayOrLift l = (s.recordPredicted l).boundary .lift := by
  have enough : (s.recordPredicted l).ssq.latched.threshold ≤ (s.predictedMargin l).value := h
  have owned : (s.recordPredicted l).owner = .stride := ho
  unfold swayOrLift
  dsimp only
  rw [owned]
  exact if_pos enough

/-- R37: the step in the terms of the statement. -/
theorem swayStep_eq (s : State) (l : Leg) (limit : Int) :
    let vs := feetOf s fun k => k != l
    s.swayStep l limit =
      if isDegenerate vs = true ∨ s.scu.margin.notReady = true then ⟨0, 0⟩
      else ⟨cutAxis s.scu.sway.x limit (max (-4) (min 4 ((vs.map Pair.x).sum.tdiv vs.length - s.scu.p.x))),
            cutAxis s.scu.sway.y limit (max (-4) (min 4 ((vs.map Pair.y).sum.tdiv vs.length - s.scu.p.y)))⟩ := by
  unfold swayStep
  simp only [Bool.or_eq_true]
  rfl

/-! ### The sample -/

/-- What each clause on a settled SHIFT supposes. -/
structure SettledShift (s : State) (v : Sample) (l : Leg) : Prop where
  accepted : acceptable v
  shift : s.ssq.phase = .shift
  stepping : s.ssq.stepping = some l
  clear : s.pc.protect = false
  steady : (sampled s v).tipHolds = false
  onTarget : ∀ k, s.inStance k = true → ((s.footOf k).x - (s.cmdOf k).target.x).natAbs ≤ 5 ∧
    ((s.footOf k).y - (s.cmdOf k).target.y).natAbs ≤ 5 ∧ ((s.footOf k).z - (s.cmdOf k).target.z).natAbs ≤ 5

/-- R22, R39: the sample taken, and the test of TIP that finds none, with the condition it publishes. -/
def arrived (s : State) (v : Sample) (condition : Bool) : State :=
  { sampled s v with scu := { (sampled s v).scu with tipRaised := false, tipCondition := condition } }

/-- R36: the same, with the predicted margin on record. -/
def asked (s : State) (v : Sample) (l : Leg) (condition : Bool) : State := (arrived s v condition).recordPredicted l

theorem settled_of_onTarget (h : ∀ k, s.inStance k = true → ((s.footOf k).x - (s.cmdOf k).target.x).natAbs ≤ 5 ∧
    ((s.footOf k).y - (s.cmdOf k).target.y).natAbs ≤ 5 ∧ ((s.footOf k).z - (s.cmdOf k).target.z).natAbs ≤ 5) :
    s.settled = true := by
  refine List.all_eq_true.mpr fun k _ => ?_
  by_cases hk : s.inStance k = true
  · simp [onTarget, h k hk]
  · simp [hk]

/-- R54: the settled arrival. -/
theorem SettledShift.exec_eq (h : SettledShift s v l) :
    ∃ condition, exec (.sampleRead (some v)) s = .next ((arrived s v condition).swayOrLift l) := by
  refine ⟨(sampled s v).tipTest.scu.tipCondition, ?_⟩
  have tested : (sampled s v).tipTest = arrived s v (sampled s v).tipTest.scu.tipCondition :=
    tipTest_eq_of_not_holds h.steady
  rw [exec_sampleRead_accepted h.accepted]
  generalize (sampled s v).tipTest.scu.tipCondition = condition at tested ⊢
  rw [tested]
  have shift : (arrived s v condition).ssq.phase = .shift := h.shift
  have stepping : (arrived s v condition).ssq.stepping = some l := h.stepping
  have clear : (arrived s v condition).pc.protect = false := h.clear
  have settled : (arrived s v condition).settled = true := settled_of_onTarget (s := arrived s v condition) h.onTarget
  unfold swayEvent
  simp only [shift, stepping, clear, settled]
  rfl

end State
end Sys2Proof.Machine

open Sys2Proof Sys2Proof.Machine

/-- Settles O20, clause by clause: the lists and margins, what a sample publishes, the cut of a step, and the three ways a
settled SHIFT goes on (a sway step, NO_MARGIN, the lift). -/
theorem marginsAreFormedAndGovernTheLift : Obligations.MarginsAreFormedAndGovernTheLift := by
  unfold Obligations.MarginsAreFormedAndGovernTheLift
  refine ⟨vertexList_spec, fun p feet => ⟨?_, fun h => ?_, marginOf_spec p feet⟩, fun p v feet => ?_,
    fun s v hv hphase hs => ⟨_, State.exec_sampleRead_accepted hv, ?_⟩, fun acc limit raw => cutAxis_spec,
    fun s v l hv hphase hstep hprotect hsteady htarget => ?_⟩
  · rw [isDegenerate_iff, doubleArea_eq]
    rfl
  · rw [marginOf, if_pos h]
  · have list : vertexList (feet.map (movedBy v)) = (vertexList feet).map (movedBy v) :=
      vertexList_map (movedBy_injective v) feet
    intro moved
    have same : vertexList moved = (vertexList feet).map (movedBy v) := list
    rw [same]
    exact ⟨isDegenerate_moved v _, marginOf_moved p v _⟩
  · exact State.accepted_publishes hphase hs
  · have settled : State.SettledShift s v l := ⟨hv, hphase, hstep, hprotect, hsteady, htarget⟩
    obtain ⟨condition, next⟩ := settled.exec_eq
    intro u vs margin raw step
    have same : (State.arrived s v condition).swayStep l s.ssq.latched.swayLimit = step := State.swayStep_eq _ _ _
    refine ⟨fun low hne => ?_, fun low zero => ?_, fun enough hstride hb hc hs hstop hw hp hhot hlink hair => ?_⟩
    · have sways : (s.arrived v condition).swayOrLift l = (s.asked v l condition).applySway step :=
        State.swayOrLift_of_sway low same hne
      rw [sways] at next
      refine ⟨_, next, (State.applySway_scu _ step).trans ?_, (State.applySway_ssq _ step :), fun k hk => ?_,
        fun k hk => State.applySway_cmdOf_of_ne (s := s.asked v l condition) step hk,
        State.applySway_rest (s.asked v l condition) step⟩
      · rw [State.applySway_scu]
        rfl
      · have moved := State.applySway_cmdOf_of_stance (s := s.asked v l condition) step hk
        exact ⟨congrArg LegCmd.mode moved, (congrArg LegCmd.clearance moved :), (congrArg LegCmd.target moved :)⟩
    · have fails : (s.arrived v condition).swayOrLift l = (s.asked v l condition).shiftFailed .noMargin l :=
        State.swayOrLift_of_no_margin low (same.trans zero)
      rw [fails] at next
      intro noted idle stopped asked
      have line (n : Note) :
          (((s.asked v l condition).marginless l).postNote n).hli = (noted.postNote n).hli :=
        State.postNote_hli_congr n (State.postNote_hli_congr _ rfl)
      refine ⟨fun hstride hb hw => ?_, fun hreseat hr hb horigin => ?_, fun r hr hstage hb hs hp => ?_⟩
      · rw [State.shiftFailed_of_stride (s := s.asked v l condition)
          (State.owner_of_striding hstride) hb hw hsteady] at next
        refine ⟨_, next, rfl, rfl, ?_, rfl, rfl⟩
        rw [← hb]
        exact line _
      · have owned := State.owner_of_reseat (s := s.asked v l condition) hr hreseat
        have faults : (State.reseatFailNoted (s.asked v l condition) l).hli =
            (noted.postNote (.fault .reseatFail none none)).hli := line _
        refine ⟨fun hstand hw => ?_, fun hne => ?_⟩
        · have origin : s.pls.origin = .stand := by rw [horigin, hstand]; rfl
          rw [State.shiftFailed_of_reseat_stand (s := s.asked v l condition)
            owned origin hstand hw hsteady] at next
          refine ⟨_, next, rfl, rfl, rfl, ?_, rfl, rfl⟩
          rw [← hstand]
          exact State.postNote_hli_congr _ faults
        · have origin : s.pls.origin ≠ .stand := by
            rw [horigin]
            rcases hb with h | h | h
            · exact absurd h hne
            · rw [h]; decide
            · rw [h]; decide
          rw [State.shiftFailed_of_reseat_ne (s := s.asked v l condition) owned origin] at next
          exact ⟨_, next, rfl, rfl, faults, rfl, rfl⟩
      · obtain ⟨pose, ssq, pls⟩ := State.shiftFailed_of_reflex (s := s.asked v l condition) (l := l)
          hr hstage hb hs hp hsteady
        have rxu := congrArg State.rxu pose
        have scu := congrArg State.scu pose
        refine ⟨_, next, (congrArg State.pc pose :), (congrArg Reflexes.stack rxu :), (congrArg Reflexes.running rxu :),
          (congrArg Reflexes.re1 rxu :), (congrArg Reflexes.pending rxu :).trans hp, ssq, pls, ?_,
          (congrArg Support.predicted scu :), (congrArg Support.predictedLeg scu :), (congrArg Support.sway scu :),
          (congrArg State.llc pose :), (congrArg State.fhq pose :), (congrArg State.ztb pose :),
          (congrArg State.tdu pose :)⟩
        exact (congrArg State.hli pose :).trans (State.postNote_hli_congr _ (line _))
    · have bounds : (s.arrived v condition).swayOrLift l = (s.asked v l condition).boundary .lift :=
        State.swayOrLift_of_margin enough (State.owner_of_striding hstride)
      rw [bounds] at next
      have lifts := State.boundary_lift_spec (s := s.asked v l condition) (l := l) hstep hprotect hc hs hstop hw hp hhot rfl
        hlink hair
      have support := State.liftCommanded_scu (s.asked v l condition) l
      generalize State.boundary _ _ = t at lifts next
      refine ⟨t, next, lifts.predicted.trans (congrArg Support.predicted support),
        lifts.predictedLeg.trans (congrArg Support.predictedLeg support), fun hclear => ?_⟩
      obtain ⟨going, command, verified, stance, queues, others, pc, rxu⟩ := lifts.lifted hclear (hair l)
      exact ⟨(congrArg Strider.phase going :), (congrArg Strider.stepping going :).trans hstep,
        (congrArg Strider.phaseTimer going :), congrArg LegCmd.mode command, verified, stance,
        (congrArg LegCmd.clearance command).trans (State.liftClearance_eq _),
        State.lifted_target (s := s.asked v l condition) (congrArg LegCmd.target command) queues,
        fun k hk => ⟨others k hk, (congrArg (PerLeg.get · k) queues).trans (State.markHead_queueOf_of_ne hk)⟩, pc, rxu,
        lifts.sway.trans (congrArg Support.sway support :)⟩

end


section
/-! ## O14: a lift without a sample (R56, R46, R57)

A RETRACT at its PLACE stage stands on the context stack under a BRACE that waits for the legs to settle. The first
report of its leg takes a verified leg into the stance set, and that change lets the BRACE complete (R149): the RETRACT is
resumed, and its leg, which stands, is commanded into PLACING (R151, R147). The same report then judges the attempt
(R75): without contact it is not verified, and the re-place attempt lifts the leg (R80). -/

namespace Sys2Proof.Machine.LiftWithoutSample

def hips : PerLeg Pair := ⟨⟨300, 200⟩, ⟨300, -200⟩, ⟨-300, 200⟩, ⟨-300, -200⟩⟩

/-- Where a foot stands: over its hip, at the stand height. -/
def foot (l : Leg) : Point := ⟨(hips.get l).x, (hips.get l).y, -420⟩

/-- A report at a leg's own foot. -/
def found (l : Leg) (force : Int) : Report :=
  { x := (foot l).x, y := (foot l).y, z := (foot l).z, force := force, temp := 40, swingDone := false, obstruct := false,
    overload := false, calibBusy := false, calibDone := false, fault := false, suggested := 0 }

/-- The record of RF at its foot, without contact. -/
def record : List Byte := [0x2C, 0x01, 0x38, 0xFF, 0x5C, 0xFE, 0, 0, 40, 0, 0, 0, 0x1A]

def brace : Running :=
  { kind := .brace, trigger := .cause .overload, leg := some .lh, param := 0, retract := Point.zero, stage := .wait,
    lift := 0 }

def retract : Running :=
  { kind := .retract, trigger := .cause .obstruct, leg := some .rf, param := 50, retract := foot .rf, stage := .place,
    lift := 0 }

/-- Four verified legs stand at their feet on level ground, RF out of the stance set until its link is OK. -/
def bracing : State :=
  { State.reset with
    pc.body := .recover, pc.written := true, pc.postureSafe := false,
    pc.geom := { hip := hips, cx := -20, cy := 30, cz := -20, stand := -420, crouch := -300, widening := 0, critical := 10 },
    atp.slots := some ⟨⟨0, 0, -4096⟩, ⟨0, 0, -4096⟩, ⟨0, 0, -4096⟩, ⟨0, 0, -4096⟩⟩,
    scu.dbar := ⟨0, 0, -4096⟩, scu.stance := ⟨true, false, true, true⟩, scu.p := ⟨-20, 30⟩,
    scu.margin := { value := 36, notReady := false, degenerate := false },
    ssq.cmd := .tab fun l => { mode := .stance, target := foot l, clearance := 0 }, ssq.verified := .all true,
    llc := (PerLeg.tab fun l => { Link.atReset true with link := .ok, last := some (found l 150) }).modify .rf fun k =>
      { k with link := .wait, awaiting := true, last := none },
    rxu.re1 := false, rxu.stack := [.recover retract, .stand], rxu.running := some brace }

/-- No placement runs, and RF stands. -/
theorem bracing_stands : bracing.pls.placement = none ∧ bracing.modeOf .rf = .stance := by decide

end Sys2Proof.Machine.LiftWithoutSample
end

open Sys2Proof Sys2Proof.Machine LiftWithoutSample in
/-- Refutes O14: the report of a leg that stands resumes a RETRACT's PLACE of that leg and fails its first attempt, so that
the leg is in SWING after an event that is no sample. -/
theorem not_noLiftWithoutMargin : ¬ Obligations.NoLiftWithoutMargin := by
  intro h
  obtain ⟨none_placed, stands⟩ := bracing_stands
  have placed : ∀ k, bracing.pls.placement = some k → bracing.modeOf k ≠ .stance := fun k hk => by
    rw [none_placed] at hk
    cases hk
  obtain ⟨⟨v, sampled, -⟩, -⟩ := h (.legReportArrival .rf record) bracing _ .rf placed rfl stands (by decide +kernel)
  cases sampled


section
/-! ## The limits of an event

What the invariants of R46, R45, R190, R194, R143, R109, R125 and R188 read of a state, and one relation between the state in
which an event begins and a state on its way: each of these invariants, where it held, holds still, and the host link
has not left SYNC or FRAMED. Every shared operation keeps the relation. -/

namespace Sys2Proof.Machine

/-- The commands, the context stack, the sizes of the zone table and of the deviation store, and the host link. -/
structure Limits where
  cmd : PerLeg LegCmd
  stack : List Context
  zones : Nat
  store : Nat
  line : HostLink

namespace State

def limits (s : State) : Limits :=
  { cmd := s.ssq.cmd, stack := s.rxu.stack, zones := s.ztb.entries.length, store := s.slm.store.length, line := s.hli }

/-- R46, R45, R190, R194, R143, R109, R125, R188: the limits that held in one state hold in another. -/
structure LimitsKept (s t : State) : Prop where
  air : OneLegInAir s → OneLegInAir t
  targets : TargetsInRange s → TargetsInRange t
  capacities : WithinCapacities s → WithinCapacities t
  sync : SyncIsEmpty s → SyncIsEmpty t

theorem LimitsKept.trans {s t u : State} (h₁ : LimitsKept s t) (h₂ : LimitsKept t u) : LimitsKept s u where
  air := h₂.air ∘ h₁.air
  targets := h₂.targets ∘ h₁.targets
  capacities := h₂.capacities ∘ h₁.capacities
  sync := h₂.sync ∘ h₁.sync

/-- They hold in a state on the way of an event, in which the host link is as it was. -/
structure Limited (s₀ s : State) : Prop extends LimitsKept s₀ s where
  link : s.hli.link = s₀.hli.link

variable {s₀ s t : State}

theorem Limited.refl (s : State) : Limited s s := ⟨⟨id, id, id, id⟩, rfl⟩

theorem Limited.trans {u : State} (h₁ : Limited s t) (h₂ : Limited t u) : Limited s u :=
  ⟨h₁.toLimitsKept.trans h₂.toLimitsKept, h₂.link.trans h₁.link⟩

/-- Commands alone decide which legs are in the air and where the targets lie. -/
theorem oneLegInAir_of_modes (e : ∀ l, t.inAir l → s.inAir l) (h : OneLegInAir s) : OneLegInAir t :=
  fun k l hk hl => h k l (e k hk) (e l hl)

/-- What an operation that writes no command has to show. -/
theorem limitsKept_of_uncommanded (cmd : t.ssq.cmd = s.ssq.cmd) (capacities : WithinCapacities s → WithinCapacities t)
    (sync : SyncIsEmpty s → SyncIsEmpty t) : LimitsKept s t := by
  refine ⟨oneLegInAir_of_modes fun l hl => ?_, fun h l => ?_, capacities, sync⟩
  · simpa only [inAir, modeOf, cmdOf, cmd] using hl
  · simpa only [cmdOf, cmd] using h l

/-- An operation that writes nothing of the limits keeps them. -/
theorem Limited.frame (h : Limited s₀ s) (e : t.limits = s.limits) : Limited s₀ t := by
  have stack : t.rxu.stack = s.rxu.stack := congrArg Limits.stack e
  have zones : t.ztb.entries.length = s.ztb.entries.length := congrArg Limits.zones e
  have store : t.slm.store.length = s.slm.store.length := congrArg Limits.store e
  have line : t.hli = s.hli := congrArg Limits.line e
  refine h.trans ⟨limitsKept_of_uncommanded (congrArg Limits.cmd e :) (fun hc => ?_) (fun hs => ?_), by rw [line]⟩
  · simpa only [WithinCapacities, stack, zones, store, line] using hc
  · simpa only [SyncIsEmpty, line] using hs

theorem ite_limited {c : Prop} [Decidable c] (hs : Limited s₀ s) (ht : Limited s₀ t) :
    Limited s₀ (if c then s else t) := by
  split
  · exact hs
  · exact ht

/-- A fold over the legs keeps the limits when every pass does. -/
theorem foldl_limited {f : State → Leg → State} (hf : ∀ s l, Limited s₀ s → Limited s₀ (f s l)) (legs : List Leg)
    (h : Limited s₀ s) : Limited s₀ (legs.foldl f s) := by
  induction legs generalizing s with
  | nil => exact h
  | cons l rest ih => exact ih (hf _ _ h)

/-- R143: another stack, within its capacity. -/
theorem Limited.restack (h : Limited s₀ s) {stack : List Context} (hs : s.rxu.stack.length ≤ 4 → stack.length ≤ 4) :
    Limited s₀ { s with rxu.stack := stack } :=
  h.trans ⟨limitsKept_of_uncommanded rfl
    (fun ⟨input, notes, stack, entries, slots⟩ => ⟨input, notes, hs stack, entries, slots⟩) id, rfl⟩

/-- R188, R190, R194: another host link, in FRAMED as it was; there all but the two capacities is free. -/
theorem Limited.reline (h : Limited s₀ s) {line : HostLink} (hs : s.hli.link = .framed) (ht : line.link = .framed)
    (input : s.hli.input.length ≤ 4 → line.input.length ≤ 4)
    (notes : s.hli.notes.length ≤ 16 → line.notes.length ≤ 16) : Limited s₀ { s with hli := line } :=
  h.trans ⟨limitsKept_of_uncommanded rfl
    (fun ⟨hi, hn, stack, entries, slots⟩ => ⟨input hi, notes hn, stack, entries, slots⟩)
    (fun _ hsync => nomatch hsync.symm.trans ht), ht.trans hs.symm⟩

/-! ### Notes -/

/-- R194, R188: a note joins a queue with room, and none in SYNC. -/
theorem postNote_limited (n : Note) (h : Limited s₀ s) : Limited s₀ (s.postNote n) := by
  unfold postNote
  split
  · exact h
  · rename_i framed
    refine ite_limited ?_ h
    split
    · rename_i room
      exact h.reline framed framed id fun _ => by simpa [Config.noteQueueCapacity] using Nat.succ_le_of_lt room
    · exact h.reline framed framed id id


theorem postFault_limited (c : FaultCode) (l : Option Leg) (h : Limited s₀ s) : Limited s₀ (s.postFault c l) :=
  postNote_limited _ h

/-! ### Leg commands -/

theorem setCmd_stack (s : State) (l : Leg) (m : LegMode) (p : Point) (c : Int) :
    (s.setCmd l m p c).rxu.stack = s.rxu.stack := by
  refine setCmd_keeps (fun s => s.rxu.stack) (fun _ _ => rfl) (fun _ => rfl) (fun s => ?_) (fun _ => by simp) s p c
  unfold modeChanged endOverload
  cases m <;> dsimp only
  case limp => split <;> rfl
  all_goals rfl

theorem setCmd_store (s : State) (l : Leg) (m : LegMode) (p : Point) (c : Int) :
    (s.setCmd l m p c).slm.store = s.slm.store :=
  setCmd_keeps (fun s => s.slm.store) (fun _ _ => rfl) (fun _ => rfl) (fun s => by simp) (fun _ => by simp) s p c

theorem inAir_setCmd {k l : Leg} {m : LegMode} {p : Point} {c : Int} :
    (s.setCmd l m p c).inAir k ↔ if k = l then m = .swing ∨ m = .placing else s.inAir k := by
  by_cases hk : k = l
  · subst hk
    simp [inAir, modeOf]
  · simp [inAir, modeOf, setCmd_cmdOf_of_ne s m p c hk, hk]

theorem clampPoint_inRange (p : Point) :
    -2000 ≤ (clampPoint p).x ∧ (clampPoint p).x ≤ 2000 ∧ -2000 ≤ (clampPoint p).y ∧ (clampPoint p).y ≤ 2000 ∧
      -2000 ≤ (clampPoint p).z ∧ (clampPoint p).z ≤ 2000 := by
  simp only [clampPoint, clamp]
  omega

/-- R45, R46: a command clamps its target, and keeps one leg in the air if it sends no second one there. -/
theorem setCmd_limited {l : Leg} {m : LegMode} (hm : m = .swing ∨ m = .placing → s.otherInAir l = false ∨ s.inAir l)
    (p : Point) (c : Int) (h : Limited s₀ s) : Limited s₀ (s.setCmd l m p c) := by
  refine h.trans ⟨⟨fun one k j hk hj => ?_, fun range k => ?_, fun hc => ?_, fun hs => ?_⟩, by rw [setCmd_hli]⟩
  · have alone (i : Leg) (ne : i ≠ l) (air : s.inAir i) : ¬(m = .swing ∨ m = .placing) := fun hair => by
      rcases hm hair with none | first
      · exact absurd air fun hi => by
          simp only [otherInAir, List.any_eq_false] at none
          have := none i (Leg.mem_all i)
          simp_all [inAir]
      · exact ne (one i l air first)
    rw [inAir_setCmd] at hk hj
    split at hk <;> split at hj
    · exact ‹k = l›.trans ‹j = l›.symm
    · exact absurd hk (alone j ‹_› hj)
    · exact absurd hj (alone k ‹_› hk)
    · exact one k j hk hj
  · by_cases hk : k = l
    · subst hk
      rw [setCmd_cmdOf_self]
      exact clampPoint_inRange p
    · rw [setCmd_cmdOf_of_ne s m p c hk]
      exact range k
  · simpa only [WithinCapacities, setCmd_hli, setCmd_ztb, setCmd_stack, setCmd_store] using hc
  · simpa only [SyncIsEmpty, setCmd_hli] using hs

/-- R46: a mode on the ground, or the mode that a leg has, sends none into the air. -/
theorem setCmd_limited_of_ground {l : Leg} {m : LegMode} (hs : m ≠ .swing) (hp : m ≠ .placing) (p : Point) (c : Int)
    (h : Limited s₀ s) : Limited s₀ (s.setCmd l m p c) :=
  setCmd_limited (fun hm => absurd hm (by simp [hs, hp])) p c h

theorem airCmd_limited (l : Leg) (m : LegMode) (p : Point) (c : Int) (h : Limited s₀ s) :
    Limited s₀ (s.airCmd l m p c) := by
  rcases airCmd_cases s l m p c with ⟨-, e⟩ | ⟨alone, e⟩ <;> rw [e]
  · exact h
  · exact setCmd_limited (fun _ => .inl alone) p c h

theorem setTarget_limited (l : Leg) (p : Point) (h : Limited s₀ s) : Limited s₀ (s.setTarget l p) :=
  setCmd_limited (fun hm => .inr hm) p _ h

theorem moveStance_limited (f : Point → Point) (h : Limited s₀ s) : Limited s₀ (s.moveStance f) :=
  foldl_limited (fun _ _ hs => ite_limited (setTarget_limited _ _ hs) hs) _ h

/-! ### Links, conditions, the body state -/

@[simp] theorem handToLink_limits (s : State) (l : Leg) : (s.handToLink l).limits = s.limits := by simp [limits]

@[simp] theorem endExchange_limits (s : State) (l : Leg) : (s.endExchange l).limits = s.limits := by simp [limits]

@[simp] theorem endSlip_limits (s : State) (l : Leg) : (s.endSlip l).limits = s.limits := by
  unfold endSlip
  split <;> rfl

@[simp] theorem slmLeave_limits (s : State) (l : Leg) : (s.slmLeave l).limits = s.limits := endSlip_limits _ _

@[simp] theorem endOverload_limits (s : State) (l : Leg) : (s.endOverload l).limits = s.limits := by
  unfold endOverload
  split <;> rfl

@[simp] theorem pendAdd_limits (s : State) (c : Cause) (l : Leg) : (s.pendAdd c l).limits = s.limits := by
  unfold pendAdd
  split <;> rfl

@[simp] theorem dropCause_limits (s : State) (c : Cause) (l : Leg) : (s.dropCause c l).limits = s.limits := by
  cases c <;> rfl

@[simp] theorem endAllSlip_limits (s : State) : s.endAllSlip.limits = s.limits :=
  foldl_keeps limits endSlip_limits Leg.all s

@[simp] theorem restanced_limits (s : State) : s.restanced.limits = s.limits :=
  foldl_keeps limits slmLeave_limits _ _

theorem setBody_limited (b : BodyState) (r : BodyReason) (h : Limited s₀ s) : Limited s₀ (s.setBody b r) := by
  unfold setBody
  extract_lets old _ changed _ surveyed _ stood
  have entered : Limited s₀ surveyed := ite_limited (h.frame rfl) (h.frame rfl)
  have entered : Limited s₀ stood := ite_limited entered (entered.frame (endAllSlip_limits _))
  exact ite_limited (ite_limited entered (postNote_limited _ entered)) h

theorem zoneLookup_limited (r : ZoneReason) (h : Limited s₀ s) : Limited s₀ (s.zoneLookup r) :=
  ite_limited h (postNote_limited _ (h.frame rfl))

theorem reformLevel_limited (r : HeatReason) (h : Limited s₀ s) : Limited s₀ (s.reformLevel r) :=
  ite_limited h (postNote_limited _ (h.frame rfl))

theorem setLevel_limited (l : Leg) (n : Nat) (h : Limited s₀ s) : Limited s₀ (s.setLevel l n) :=
  reformLevel_limited _ (h.frame rfl)

theorem levelFall_limited (l : Leg) (h : Limited s₀ s) : Limited s₀ (s.levelFall l) := by
  unfold levelFall
  dsimp only
  split
  · exact ite_limited (setLevel_limited _ _ h) h
  · exact h

theorem thermalReport_limited (l : Leg) (t : Int) (h : Limited s₀ s) : Limited s₀ (s.thermalReport l t) :=
  levelFall_limited _ (ite_limited (setLevel_limited _ _ (h.frame rfl)) (h.frame rfl))

/-! ### TIP, the latch, and a change of the stance set -/

theorem tipTestWith_limited {raise : State → State} (hr : ∀ s, Limited s₀ s → Limited s₀ (raise s)) (h : Limited s₀ s) :
    Limited s₀ (s.tipTestWith raise) := by
  rcases tipTestWith_cases raise s with ⟨-, e⟩ | ⟨-, -, e⟩ | ⟨-, -, -, e⟩ | ⟨-, -, -, e⟩ <;> rw [e]
  · exact h.frame rfl
  · exact h.frame rfl
  · exact h.frame rfl
  · exact hr _ (h.frame rfl)

theorem stanceUpdateWith_limited {test : State → State} (ht : ∀ s, Limited s₀ s → Limited s₀ (test s))
    (h : Limited s₀ s) : Limited s₀ (s.stanceUpdateWith test) := by
  rcases stanceUpdateWith_cases test s with ⟨-, e⟩ | ⟨-, e⟩ <;> rw [e]
  · exact h
  · exact ht _ (h.frame (by simp))

theorem holdLeg_limited (s : State) (l : Leg) (h : Limited s₀ s) : Limited s₀ (s.holdLeg l) := by
  cases hm : (s.modeOf l).loose with
  | false => rwa [holdLeg_of_not_loose hm]
  | true =>
    rw [holdLeg_of_loose hm]
    exact stanceUpdateWith_limited (fun _ => tipTestWith_limited fun _ hu => postNote_limited _ (hu.frame rfl))
      (setCmd_limited_of_ground (by decide) (by decide) _ _ h)

theorem setProtect_limited (h : Limited s₀ s) : Limited s₀ s.setProtect :=
  ite_limited h (foldl_limited holdLeg_limited _ (postFault_limited _ _ (h.frame rfl)))

theorem overflow_limited (t : Trigger) (l : Option Leg) (h : Limited s₀ s) : Limited s₀ (s.overflow t l) :=
  setProtect_limited (postNote_limited _ (h.frame rfl))

/-- R143, R158: a context is pushed where the stack has room. -/
theorem enterReflex_limited (r : Running) (room : s.rxu.stack.length < 4) (h : Limited s₀ s) :
    Limited s₀ (s.enterReflex r) := by
  have pushed : Limited s₀ { s with rxu.stack := s.currentContext :: s.rxu.stack } := h.restack fun _ => by simpa using room
  exact setBody_limited _ _ (postNote_limited _ (pushed.frame rfl))

theorem crouchLeg_limited (s : State) (l : Leg) (h : Limited s₀ s) : Limited s₀ (s.crouchLeg l) := by
  unfold crouchLeg
  dsimp only
  split
  · exact setTarget_limited _ _ h
  · exact airCmd_limited _ _ _ _ h
  · exact airCmd_limited _ _ _ _ h
  · exact h

theorem raiseTip_limited (h : Limited s₀ s) : Limited s₀ s.raiseTip := by
  unfold raiseTip
  split
  · exact postNote_limited _ (h.frame rfl)
  · split
    · split
      · rename_i room
        exact (foldl_limited crouchLeg_limited _ (enterReflex_limited _ room h)).frame rfl
      · exact overflow_limited _ _ h
    · exact postNote_limited _ h

theorem tipTest_limited (h : Limited s₀ s) : Limited s₀ s.tipTest := tipTestWith_limited (fun _ => raiseTip_limited) h

theorem stanceUpdate_limited (h : Limited s₀ s) : Limited s₀ s.stanceUpdate :=
  stanceUpdateWith_limited (fun _ => tipTest_limited) h

theorem recomputeTest_limited (h : Limited s₀ s) : Limited s₀ s.recomputeTest := tipTest_limited (h.frame rfl)

/-! ### What a resumption starts, and how walks and reseats end -/

theorem beginStepShift_limited (l : Leg) (i : Nat) (h : Limited s₀ s) : Limited s₀ (s.beginStepShift l i) := by
  unfold beginStepShift
  split <;> exact h.frame rfl

theorem beginStride_limited (h : Limited s₀ s) : Limited s₀ s.beginStride := beginStepShift_limited _ _ (h.frame rfl)

theorem beginPlacement_limited (l : Leg) (p : Point) (c : Int) (e : Option Foothold) (h : Limited s₀ s) :
    Limited s₀ (s.beginPlacement l p c e) :=
  stanceUpdate_limited (airCmd_limited _ _ _ _ (h.frame rfl))

theorem postStride_limited (h : Limited s₀ s) : Limited s₀ s.postStride := postNote_limited _ h

theorem endStep_limited (h : Limited s₀ s) : Limited s₀ s.endStep :=
  ite_limited (postStride_limited (h.frame rfl)) (h.frame rfl)

theorem enterHold_limited (n : NextStep) (r : BodyReason) (h : Limited s₀ s) : Limited s₀ (s.enterHold n r) :=
  setBody_limited _ _ (h.frame rfl)

theorem walkOver_limited (r : BodyReason) (h : Limited s₀ s) : Limited s₀ (s.walkOver r) :=
  setBody_limited _ _ (h.frame rfl)

theorem holdAfterStep_limited (r r' : BodyReason) (h : Limited s₀ s) : Limited s₀ (s.holdAfterStep r r') :=
  ite_limited (walkOver_limited _ (endStep_limited h)) (enterHold_limited _ _ (endStep_limited h))

theorem resumeAsHold_limited (l : Option Leg) (i : Nat) (f : Phase) (r : BodyReason) (h : Limited s₀ s) :
    Limited s₀ (s.resumeAsHold l i f r) := by
  unfold resumeAsHold
  split
  · exact enterHold_limited _ _ h
  · exact holdAfterStep_limited _ _ (h.frame rfl)
  · exact enterHold_limited _ _ h

theorem reseatSucceed_limited (n : Nat) (h : Limited s₀ s) : Limited s₀ (s.reseatSucceed n) := by
  have noted := postNote_limited (.step none n s.scu.margin) (show Limited s₀ s.unreseated from h.frame rfl)
  unfold reseatSucceed
  dsimp only
  split
  · exact noted
  · exact setBody_limited _ _ ((postStride_limited noted).frame rfl)
  · exact setBody_limited _ _ noted

theorem reseatFail_limited (h : Limited s₀ s) : Limited s₀ s.reseatFail := by
  have noted : Limited s₀ s.reseatGivenUp := postNote_limited _ (show Limited s₀ s.unreseated from h.frame rfl)
  by_cases ho : s.pls.origin = .stand
  · rw [reseatFail_of_stand ho]
    exact setBody_limited _ _ (noted.frame rfl)
  · rwa [reseatFail_of_ne ho]

theorem reseatCheck_limited (n : Nat) (h : Limited s₀ s) : Limited s₀ (s.reseatCheck n) := by
  unfold reseatCheck
  dsimp only
  split
  · exact reseatSucceed_limited _ (h.frame rfl)
  · exact ite_limited (reseatFail_limited (h.frame rfl)) (h.frame rfl)

theorem beginReseat_limited (h : Limited s₀ s) : Limited s₀ s.beginReseat := reseatCheck_limited _ (h.frame rfl)

/-! ### Reflexes -/

theorem braceRaise_limited (i : Int) (h : Limited s₀ s) : Limited s₀ (s.braceRaise i) := by
  unfold braceRaise
  exact moveStance_limited _ h

theorem startStage_limited (h : Limited s₀ s) : Limited s₀ s.startStage.1 := by
  unfold startStage
  split
  · exact h
  · split
    · exact h
    · split
      · exact (airCmd_limited _ _ _ _ h).frame rfl
      · exact h
    · split
      · exact h
      · exact beginPlacement_limited _ _ _ _ h
    · exact h.frame rfl
    · exact h.frame rfl
    · split
      · exact h
      · exact h.frame rfl
    · exact h

theorem takeCause_limited (c : Cause) (l : Leg) (h : Limited s₀ s) : Limited s₀ (s.takeCause c l).1 := by
  unfold takeCause
  split
  · rename_i room
    dsimp only
    have entered : Limited s₀ (s.enterReflex (s.reflexFor c l)) := enterReflex_limited _ room h
    have begun := startStage_limited (ite_limited (c := (s.reflexFor c l).kind = .brace)
      (braceRaise_limited (s.reflexFor c l).param entered) entered)
    split
    · rename_i t e
      rw [e] at begun
      exact ite_limited begun (tipTest_limited begun)
    · exact begun
  · exact overflow_limited _ _ h

theorem takeOldest_limited (h : Limited s₀ s) : Limited s₀ s.takeOldest.1 := by
  unfold takeOldest
  split
  · exact h
  · exact takeCause_limited _ _ (h.frame rfl)

theorem resumeContext_limited (c : Context) (f : Bool) (h : Limited s₀ s) : Limited s₀ (s.resumeContext c f).1 := by
  cases c with
  | stand => exact setBody_limited _ _ h
  | unsettled => exact setBody_limited _ _ h
  | hold n k d => exact setBody_limited _ _ (h.frame rfl)
  | recover r => exact startStage_limited (h.frame rfl)
  | reseat o n k d x a =>
    have stood : Limited s₀ (setBody { s with ssq.next := x, ssq.count := k, ssq.dir := d } o.body .done) :=
      setBody_limited _ _ (h.frame rfl)
    exact reseatCheck_limited _ (stood.frame rfl)
  | walk l i f' k d a =>
    simp only [resumeContext]
    split
    · exact resumeAsHold_limited _ _ _ _ (h.frame rfl)
    · have walking : Limited s₀ (s.walkAgain k d) := setBody_limited _ _ (h.frame rfl)
      split
      · exact walking.frame rfl
      · exact walking.frame rfl
      · exact beginStepShift_limited _ _ walking

theorem endReflex_limited (f : Bool) (h : Limited s₀ s) : Limited s₀ (s.endReflex f).1 := by
  unfold endReflex
  split
  · rename_i ctx below _ hstack
    have popped : Limited s₀ { s with rxu.stack := below } := h.restack fun hs => by
      rw [hstack, List.length_cons] at hs
      omega
    exact resumeContext_limited _ _ (postNote_limited _ (popped.frame rfl))
  · exact h

theorem resumedTest_limited (h : Limited s₀ s) : Limited s₀ s.resumedTest := ite_limited h (tipTest_limited h)

theorem settleReflex_limited (n : Nat) (v : Verdict) (h : Limited s₀ s) : Limited s₀ (settleReflex n s v) := by
  induction n generalizing s v with
  | zero => exact h
  | succ n ih =>
    by_cases hv : v = .running
    · rwa [hv, settleReflex_running]
    · have ended := endReflex_limited (v == .failed) h
      rcases e : s.endReflex (v == .failed) with ⟨t, v'⟩
      rw [e] at ended
      by_cases hv' : v' = .running
      · subst hv'
        rw [settleReflex_of_resumed n hv e]
        have tested := resumedTest_limited ended
        exact ite_limited (ih _ (takeOldest_limited tested)) tested
      · rw [settleReflex_of_ended_again n hv hv' e]
        exact ih _ ended

theorem settle_limited (v : Verdict) (h : Limited s₀ s) : Limited s₀ (s.settle v) := settleReflex_limited _ _ h

theorem take_limited (c : Cause) (l : Leg) (h : Limited s₀ s) : Limited s₀ (s.take c l) :=
  settle_limited _ (takeCause_limited _ _ h)

theorem takePending_limited (h : Limited s₀ s) : Limited s₀ s.takePending :=
  ite_limited (settle_limited _ (takeOldest_limited h)) h

theorem enableRise_limited (h : Limited s₀ s) : Limited s₀ s.enableRise := takePending_limited (h.frame rfl)

theorem bodySettled_limited (b : BodyState) (h : Limited s₀ s) : Limited s₀ (s.bodySettled b) :=
  ite_limited h (ite_limited (enableRise_limited (tipTest_limited h)) (tipTest_limited h))

theorem raiseCause_limited (c : Cause) (l : Leg) (h : Limited s₀ s) : Limited s₀ (s.raiseCause c l) := by
  rcases raiseCause_cases s c l with ⟨-, e⟩ | ⟨-, -, -, e⟩ | ⟨-, e⟩ <;> rw [e]
  · exact h.frame (by simp)
  · exact h.frame (by simp)
  · exact take_limited _ _ h

theorem runStage_limited (h : Limited s₀ s) : Limited s₀ s.runStage := settle_limited _ (startStage_limited h)

theorem stageDone_limited (h : Limited s₀ s) : Limited s₀ s.stageDone := by
  unfold stageDone
  dsimp only
  split
  · exact h
  · split
    · exact ite_limited (ite_limited (takePending_limited (h.frame rfl)) (runStage_limited (h.frame rfl)))
        (runStage_limited (h.frame rfl))
    · exact settle_limited _ h

theorem stageFailed_limited (h : Limited s₀ s) : Limited s₀ s.stageFailed := settle_limited _ h

theorem liftTimedOut_limited (h : Limited s₀ s) : Limited s₀ s.liftTimedOut := by
  unfold liftTimedOut
  split
  · exact h
  · split
    · exact h
    · extract_lets _ lifted _ risen
      have kept : Limited s₀ risen := ite_limited (h.frame rfl) (h.frame rfl)
      exact ite_limited (raiseCause_limited _ _ (takePending_limited kept))
        (ite_limited (raiseCause_limited _ _ kept) (runStage_limited (raiseCause_limited _ _ kept)))

end State
end Sys2Proof.Machine
end


section
/-! ## The limits in walking, placing and reseating -/

namespace Sys2Proof.Machine

namespace State

variable {s s₀ : State}

theorem reseatNext_limited (h : Limited s₀ s) : Limited s₀ s.reseatNext := by
  unfold reseatNext
  dsimp only
  split
  · exact h.frame rfl
  · exact bodySettled_limited _ (reseatCheck_limited _ (h.frame rfl))

theorem stageLegDone_limited (f : Bool) (h : Limited s₀ s) : Limited s₀ (s.stageLegDone f) := by
  have idle : Limited s₀ s.idlePhase := h.frame rfl
  unfold stageLegDone
  dsimp only
  split
  · exact h
  · split
    · split
      · exact h.frame rfl
      · exact ite_limited (stageFailed_limited (h.frame rfl)) (stageDone_limited (h.frame rfl))
    · exact ite_limited (stageFailed_limited idle) (stageDone_limited idle)

theorem shiftFailed_limited (c : FaultCode) (l : Leg) (h : Limited s₀ s) : Limited s₀ (s.shiftFailed c l) := by
  have noted : Limited s₀ (s.postFault c (some l)) := postFault_limited _ _ h
  unfold shiftFailed
  dsimp only
  split
  · exact stageLegDone_limited _ noted
  · exact bodySettled_limited _ (reseatFail_limited noted)
  · exact bodySettled_limited _ (enterHold_limited _ _ noted)

theorem liftTo_limited (l : Leg) (p : Point) (h : Limited s₀ s) : Limited s₀ (s.liftTo l p) :=
  stanceUpdate_limited (airCmd_limited _ _ _ _ (h.frame rfl))

theorem liftStride_limited (l : Leg) (h : Limited s₀ s) : Limited s₀ (s.liftStride l) :=
  ite_limited (liftTo_limited _ _ (h.frame rfl)) h

theorem liftReseat_limited (l : Leg) (h : Limited s₀ s) : Limited s₀ (s.liftReseat l) :=
  ite_limited (liftTo_limited _ _ h) h

theorem beginPropel_limited (h : Limited s₀ s) : Limited s₀ s.beginPropel := by
  unfold beginPropel
  exact moveStance_limited _ (h.frame rfl)

theorem postHoldFaults_limited (h : Limited s₀ s) : Limited s₀ s.postHoldFaults := by
  unfold postHoldFaults
  extract_lets listed
  have kept : Limited s₀ listed := by
    unfold listed
    split
    · exact postNote_limited _ h
    · exact h
  exact ite_limited (postFault_limited _ _ kept) kept

theorem endByStop_limited (r : BodyReason) (h : Limited s₀ s) : Limited s₀ (s.endByStop r) := by
  unfold endByStop
  exact walkOver_limited _ ((postStride_limited h).frame rfl)

theorem stopAtBoundary_limited (b : Boundary) (h : Limited s₀ s) : Limited s₀ (s.stopAtBoundary b) := by
  unfold stopAtBoundary
  dsimp only
  refine takePending_limited (bodySettled_limited _ ?_)
  split
  · exact ite_limited (walkOver_limited _ (endStep_limited h)) (endByStop_limited _ (endStep_limited h))
  · exact endByStop_limited _ h

theorem holdAtBoundary_limited (b : Boundary) (h : Limited s₀ s) : Limited s₀ (s.holdAtBoundary b) := by
  have noted := postHoldFaults_limited h
  unfold holdAtBoundary
  dsimp only
  refine bodySettled_limited _ ?_
  split
  · exact holdAfterStep_limited _ _ noted
  · exact enterHold_limited _ _ noted
  · exact enterHold_limited _ _ noted

theorem goOn_limited (b : Boundary) (h : Limited s₀ s) : Limited s₀ (s.goOn b) := by
  cases b with
  | lift =>
    unfold goOn
    dsimp only
    split
    · exact liftStride_limited _ h
    · exact h
  | placed => exact beginPropel_limited h
  | propel ended =>
    exact ite_limited (ite_limited (h.frame rfl) (beginStride_limited h)) (beginStepShift_limited _ _ h)
  | pause => exact beginStride_limited h

theorem enablesAtBoundary_limited (h : Limited s₀ s) : Limited s₀ s.enablesAtBoundary := ite_limited (h.frame rfl) h

theorem boundary_limited (b : Boundary) (h : Limited s₀ s) : Limited s₀ (s.boundary b) := by
  have enabled := enablesAtBoundary_limited h
  rw [boundary_eq]
  exact ite_limited (stopAtBoundary_limited _ h) (ite_limited (takePending_limited enabled)
    (ite_limited (holdAtBoundary_limited _ enabled) (goOn_limited _ enabled)))

theorem boundaryFailed_limited (h : Limited s₀ s) : Limited s₀ s.boundaryFailed := by
  have enabled := enablesAtBoundary_limited h
  rw [boundaryFailed_eq]
  exact ite_limited (stopAtBoundary_limited _ h)
    (ite_limited (takePending_limited enabled) (holdAtBoundary_limited _ enabled))

theorem applySway_limited (d : Pair) (h : Limited s₀ s) : Limited s₀ (s.applySway d) := by
  unfold applySway
  extract_lets moved
  have kept : Limited s₀ moved := moveStance_limited _ h
  clear_value moved
  exact kept.frame rfl

theorem swayOrLift_limited (l : Leg) (h : Limited s₀ s) : Limited s₀ (s.swayOrLift l) := by
  have asked : Limited s₀ (s.recordPredicted l) := h.frame rfl
  unfold swayOrLift
  dsimp only
  split
  · split
    · exact boundary_limited _ asked
    · exact liftReseat_limited _ asked
  · exact ite_limited (shiftFailed_limited _ _ asked) (applySway_limited _ asked)

theorem swayEvent_limited (h : Limited s₀ s) : Limited s₀ s.swayEvent := by
  unfold swayEvent
  split
  · exact ite_limited (swayOrLift_limited _ h) h
  · exact h

/-! ### Placements -/

theorem lowerAgain_limited (l : Leg) (h : Limited s₀ s) : Limited s₀ (s.lowerAgain l) :=
  stanceUpdate_limited (airCmd_limited _ _ _ _ (h.frame rfl))

theorem placedVerified_limited (h : Limited s₀ s) : Limited s₀ s.placedVerified := by
  unfold placedVerified
  split
  · exact stageLegDone_limited _ h
  · exact reseatNext_limited h
  · exact boundary_limited _ h

theorem placeVerified_limited (l : Leg) (h : Limited s₀ s) : Limited s₀ (s.placeVerified l) := by
  unfold placeVerified
  extract_lets _ stopped commanded stood consumed noted _ tested
  have stops : Limited s₀ stopped := h.frame rfl
  have commands : Limited s₀ commanded := setCmd_limited_of_ground (by decide) (by decide) _ _ stops
  have standing : Limited s₀ stood := stanceUpdateWith_limited (fun _ hu => hu) (commands.frame rfl)
  have consumes : Limited s₀ consumed := ite_limited (standing.frame rfl) standing
  have posted : Limited s₀ noted := postNote_limited _ consumes
  have kept : Limited s₀ tested := tipTest_limited (posted.frame rfl)
  exact ite_limited (placedVerified_limited kept) kept

theorem leaveInPlacing_limited (l : Leg) (h : Limited s₀ s) : Limited s₀ (s.leaveInPlacing l) := by
  unfold leaveInPlacing
  split
  · exact h
  · exact airCmd_limited _ _ _ _ h

theorem placeExhausted_limited (l : Leg) (h : Limited s₀ s) : Limited s₀ (s.placeExhausted l) := by
  unfold placeExhausted
  extract_lets crouch owner discarded left fallen _ ended updated tell
  have discards : Limited s₀ discarded := ite_limited (h.frame rfl) h
  have leaves : Limited s₀ left := leaveInPlacing_limited _ discards
  have kept : Limited s₀ updated := stanceUpdate_limited (leaves.frame rfl)
  have raised := raiseCause_limited .placeFail l kept
  clear_value owner
  split
  · exact ite_limited (stageLegDone_limited _ kept) kept
  · exact ite_limited raised (ite_limited (reseatNext_limited raised) raised)
  · exact ite_limited raised (ite_limited (boundaryFailed_limited raised) raised)

theorem placeUnverified_limited (l : Leg) (h : Limited s₀ s) : Limited s₀ (s.placeUnverified l) :=
  ite_limited (stanceUpdate_limited (airCmd_limited _ _ _ _ (h.frame rfl))) (placeExhausted_limited _ h)

theorem placeReport_limited (l : Leg) (r : Report) (h : Limited s₀ s) : Limited s₀ (s.placeReport l r) := by
  unfold placeReport
  split
  · exact ite_limited (ite_limited (placeVerified_limited _ h) (placeUnverified_limited _ h)) h
  · exact ite_limited (lowerAgain_limited _ h) h

theorem beginPlace_limited (l : Leg) (h : Limited s₀ s) : Limited s₀ (s.beginPlace l) :=
  beginPlacement_limited _ _ _ _ (h.frame rfl)

theorem swingTimedOut_limited (l : Leg) (h : Limited s₀ s) : Limited s₀ (s.swingTimedOut l) :=
  ite_limited (raiseCause_limited _ _ h) (beginPlace_limited _ (raiseCause_limited _ _ h))

theorem propelComplete_limited (h : Limited s₀ s) : Limited s₀ s.propelComplete := by
  unfold propelComplete
  extract_lets odometer _ looked _ returned
  have looks : Limited s₀ looked := zoneLookup_limited _ (h.frame rfl)
  have kept : Limited s₀ returned := looks.frame rfl
  have stepped := endStep_limited kept
  exact ite_limited (bodySettled_limited _ (walkOver_limited _ stepped)) (boundary_limited _ (stepped.frame rfl))

theorem propelStalled_limited (h : Limited s₀ s) : Limited s₀ s.propelStalled := by
  unfold propelStalled
  extract_lets before noted stopped
  have posted : Limited s₀ noted := postFault_limited _ _ h
  have stepped := endStep_limited posted
  exact bodySettled_limited _ (ite_limited (ite_limited (walkOver_limited _ stepped) (endByStop_limited _ stepped))
    (holdAfterStep_limited _ _ posted))

theorem settleWaiters_limited (h : Limited s₀ s) : Limited s₀ s.settleWaiters := by
  unfold settleWaiters
  split
  · split
    · exact propelComplete_limited h
    · exact ite_limited (stageDone_limited h) h
    · exact h
  · exact h

theorem stanceChange_limited (h : Limited s₀ s) : Limited s₀ s.stanceChange :=
  ite_limited h (settleWaiters_limited (stanceUpdate_limited h))

/-! ### Reports -/

theorem steadyReport_limited (l : Leg) (r : Report) (h : Limited s₀ s) : Limited s₀ (s.steadyReport l r) :=
  ite_limited (h.frame rfl) h

/-- R125: a deviation takes a slot of the store; the store keeps its size. -/
theorem recordDeviation_limited (l : Leg) (d : Nat) (h : Limited s₀ s) : Limited s₀ (s.recordDeviation l d) :=
  ite_limited (h.frame rfl) (h.frame (by simp [limits]))

theorem decideSlip_limited (l : Leg) (d : Nat) (h : Limited s₀ s) : Limited s₀ (s.decideSlip l d) := by
  unfold decideSlip
  exact ite_limited (ite_limited (h.frame rfl) (raiseCause_limited _ _ (h.frame rfl)))
    (h.frame (endSlip_limits _ _))

theorem unload_limited (l : Leg) (h : Limited s₀ s) : Limited s₀ (s.unload l) :=
  raiseCause_limited _ _ (stanceChange_limited (h.frame rfl))

theorem stanceReport_limited (l : Leg) (r : Report) (h : Limited s₀ s) : Limited s₀ (s.stanceReport l r) := by
  unfold stanceReport
  extract_lets low _ counted d
  have counts : Limited s₀ counted := h.frame rfl
  exact ite_limited (unload_limited _ h)
    (ite_limited (decideSlip_limited _ _ (recordDeviation_limited _ _ counts)) counts)

theorem slipReport_limited (l : Leg) (r : Report) (h : Limited s₀ s) : Limited s₀ (s.slipReport l r) := by
  unfold slipReport
  extract_lets steadied
  have kept : Limited s₀ steadied := ite_limited h (steadyReport_limited _ _ h)
  exact ite_limited (stanceReport_limited _ _ kept) kept

/-! ### Rising, lowering and the leg links -/

theorem standAll_limited (target : State → Leg → Point) (h : Limited s₀ s) : Limited s₀ (s.standAll target) :=
  foldl_limited (fun _ _ hs => ite_limited (setCmd_limited_of_ground (by decide) (by decide) _ _ hs) hs) _ h

theorem beginRise_limited (h : Limited s₀ s) : Limited s₀ s.beginRise := by
  rw [beginRise_eq]
  have risen := setBody_limited .rising .host (show Limited s₀ { s with pc.postureSafe := false } from h.frame rfl)
  exact stanceUpdate_limited (standAll_limited _ (risen.frame rfl))

theorem beginLowering_limited (r : BodyReason) (h : Limited s₀ s) : Limited s₀ (s.beginLowering r) := by
  rw [beginLowering_eq]
  exact stanceUpdate_limited ((standAll_limited _ (setBody_limited _ _ h)).frame rfl)

theorem setVerified_limited (l : Leg) (v : Bool) (h : Limited s₀ s) : Limited s₀ (s.setVerified l v) := h.frame rfl

theorem limpAll_limited (h : Limited s₀ s) : Limited s₀ s.limpAll :=
  foldl_limited (fun _ _ hs => setVerified_limited _ _ (setCmd_limited_of_ground (by decide) (by decide) _ _ hs)) _ h

theorem laidDown_limited (h : Limited s₀ s) : Limited s₀ s.laidDown := by
  have limp := limpAll_limited h
  unfold laidDown
  generalize s.limpAll = t at limp
  exact limp.frame rfl

theorem endLowering_limited (r : BodyReason) (h : Limited s₀ s) : Limited s₀ (s.endLowering r) := by
  rw [endLowering_eq]
  exact setBody_limited _ _ (stanceUpdate_limited (laidDown_limited h))

theorem riseReport_limited (l : Leg) (h : Limited s₀ s) : Limited s₀ (s.riseReport l) := by
  unfold riseReport
  extract_lets _ reported _ stopped verified updated
  have flags : Limited s₀ verified := 
    foldl_limited (fun _ _ hs => ite_limited (setVerified_limited _ _ hs) hs) _ (h.frame rfl)
  exact ite_limited (bodySettled_limited _ (setBody_limited _ _ (stanceUpdate_limited flags))) (h.frame rfl)

theorem lowerReport_limited (h : Limited s₀ s) : Limited s₀ s.lowerReport := ite_limited (endLowering_limited _ h) h

theorem endSurvey_limited (h : Limited s₀ s) : Limited s₀ s.endSurvey := tipTest_limited (h.frame rfl)

theorem firstReport_limited (l : Leg) (r : Report) (h : Limited s₀ s) : Limited s₀ (s.firstReport l r) := by
  unfold firstReport
  extract_lets _ noted stood taken
  have hn : Limited s₀ noted := h.frame rfl
  have stands : Limited s₀ stood := setCmd_limited_of_ground (by decide) (by decide) _ _ hn
  have kept : Limited s₀ taken := by
    refine ite_limited ?_ hn
    split
    · exact hn
    · exact stanceChange_limited (setCmd_limited_of_ground (by decide) (by decide) _ _ hn)
    · exact stanceChange_limited (ite_limited (stands.frame rfl) stands)
  exact ite_limited (endSurvey_limited kept) kept

theorem calibEnd_limited (l : Leg) (h : Limited s₀ s) : Limited s₀ (s.calibEnd l) :=
  stanceUpdate_limited (setCmd_limited_of_ground (by decide) (by decide) _ _ (h.frame rfl))

theorem calibFail_limited (l : Leg) (h : Limited s₀ s) : Limited s₀ (s.calibFail l) :=
  postFault_limited _ _ (calibEnd_limited l h)

theorem calibReport_limited (l : Leg) (r : Report) (h : Limited s₀ s) : Limited s₀ (s.calibReport l r) := by
  unfold calibReport
  split
  · exact ite_limited (h.frame rfl) h
  · exact ite_limited (h.frame rfl) h
  · exact h

theorem crouched_limited (e : ReflexEvent) (h : Limited s₀ s) : Limited s₀ (s.crouched e) :=
  postNote_limited _ (h.frame rfl)

theorem waitingReport_limited (l : Leg) (r : Report) (w : Waiting) (h : Limited s₀ s) :
    Limited s₀ (s.waitingReport l r w) := by
  cases w with
  | crouch => exact ite_limited (crouched_limited _ h) h
  | lift => exact ite_limited (stageDone_limited h) h
  | swing => exact ite_limited (beginPlace_limited _ h) h
  | placement => exact placeReport_limited _ _ h
  | settle => exact settleWaiters_limited h
  | nothing => exact h

theorem operationReport_limited (l : Leg) (r : Report) (h : Limited s₀ s) : Limited s₀ (s.operationReport l r) := by
  unfold operationReport
  extract_lets waiting first calibrated
  have taken : Limited s₀ first := ite_limited (firstReport_limited _ _ h) h
  have kept : Limited s₀ calibrated := calibReport_limited _ _ taken
  split
  · exact ite_limited (riseReport_limited _ kept) kept
  · exact ite_limited (lowerReport_limited kept) kept
  · exact waitingReport_limited _ _ _ kept

theorem obstructFlag_limited (l : Leg) (r : Report) (h : Limited s₀ s) : Limited s₀ (s.obstructFlag l r) :=
  ite_limited (ite_limited (raiseCause_limited _ _ (h.frame rfl)) h) (h.frame rfl)

theorem overloadFlag_limited (l : Leg) (r : Report) (h : Limited s₀ s) : Limited s₀ (s.overloadFlag l r) :=
  ite_limited (ite_limited (raiseCause_limited _ _ (h.frame rfl)) h) (h.frame (endOverload_limits _ _))

theorem takeReport_limited (l : Leg) (r : Report) (h : Limited s₀ s) : Limited s₀ (s.takeReport l r) := by
  unfold takeReport
  extract_lets reported changed warmed slipped recomputed done
  have hc : Limited s₀ changed := stanceChange_limited (h.frame rfl)
  have hs : Limited s₀ slipped := slipReport_limited _ _ (thermalReport_limited _ _ hc)
  have hr : Limited s₀ recomputed := ite_limited (recomputeTest_limited hs) hs
  exact overloadFlag_limited _ _ (obstructFlag_limited _ _ (operationReport_limited _ _ hr))

theorem goodReport_limited (l : Leg) (r : Report) (h : Limited s₀ s) : Limited s₀ (s.goodReport l r) := by
  unfold goodReport
  extract_lets sounded k
  have sound : Limited s₀ sounded := h.frame rfl
  clear_value sounded
  split
  · exact ite_limited (sound.frame rfl) (takeReport_limited _ _ (postNote_limited _ (sound.frame rfl)))
  · exact takeReport_limited _ _ (sound.frame rfl)

theorem linkLost_limited (l : Leg) (h : Limited s₀ s) : Limited s₀ (s.linkLost l) := by
  unfold linkLost
  extract_lets _ _ lost changed ended calibrated noted
  have hl : Limited s₀ lost := h.frame rfl
  have hc : Limited s₀ changed := stanceChange_limited (hl.frame rfl)
  have he : Limited s₀ ended := hc.frame (endOverload_limits _ _)
  have hk : Limited s₀ calibrated := ite_limited he (calibFail_limited _ he)
  exact raiseCause_limited _ _ (postNote_limited _ hk)

theorem missReport_limited (l : Leg) (h : Limited s₀ s) : Limited s₀ (s.missReport l) := by
  unfold missReport
  dsimp only
  split
  · exact h.frame rfl
  · exact ite_limited (linkLost_limited _ (h.frame rfl)) (h.frame rfl)

theorem faultReport_limited (l : Leg) (h : Limited s₀ s) : Limited s₀ (s.faultReport l) :=
  missReport_limited _ (ite_limited h (postNote_limited _ (h.frame rfl)))

theorem judgeRecord_limited (l : Leg) (b : List Byte) (h : Limited s₀ s) : Limited s₀ (s.judgeRecord l b) := by
  unfold judgeRecord
  split
  · exact missReport_limited _ h
  · exact faultReport_limited _ h
  · exact goodReport_limited _ _ h

end State
end Sys2Proof.Machine
end


section
/-! ## The limits in messages, on the host link and over a whole command -/

namespace Sys2Proof.Machine

namespace State

variable {s t s₀ : State}

theorem ite_reply_limited {c : Prop} [Decidable c] {a b : Reply} (ha : Limited s₀ a.state) (hb : Limited s₀ b.state) :
    Limited s₀ (if c then a else b).state := by
  split
  · exact ha
  · exact hb

theorem doRise_limited (h : Limited s₀ s) : Limited s₀ s.doRise.state := by
  rcases doRise_cases s with ⟨st, e⟩ | ⟨-, -, -, e⟩ <;> rw [e]
  · exact h
  · exact beginRise_limited h

theorem doSettle_limited (h : Limited s₀ s) : Limited s₀ s.doSettle.state := by
  unfold doSettle
  split
  case h_6 => exact ite_reply_limited h (beginLowering_limited _ h)
  all_goals exact h

/-! ### Walking -/

theorem beginWalk_limited (n : Nat) (d : Direction) (h : Limited s₀ s) : Limited s₀ (s.beginWalk n d) :=
  bodySettled_limited _ (beginStride_limited (setBody_limited _ _ (h.frame rfl)))

theorem doStride_limited (n d : Option Byte) (h : Limited s₀ s) : Limited s₀ (s.doStride n d).state := by
  refine ite_reply_limited h ?_
  split
  case h_3 =>
    refine ite_reply_limited h ?_
    split
    · exact ite_reply_limited h (ite_reply_limited h (ite_reply_limited h (ite_reply_limited h
        (ite_reply_limited h (ite_reply_limited h (beginWalk_limited _ _ h))))))
    · exact h
  all_goals exact h

theorem stopWalk_limited (h : Limited s₀ s) : Limited s₀ s.stopWalk := by
  unfold stopWalk
  split
  case h_4 => exact bodySettled_limited _ (endByStop_limited _ h)
  all_goals exact h.frame rfl

theorem stopHold_limited (h : Limited s₀ s) : Limited s₀ s.stopHold := by
  have told := postStride_limited h
  unfold stopHold
  exact bodySettled_limited _ (setBody_limited _ _ (told.frame rfl))

theorem doStop_limited (h : Limited s₀ s) : Limited s₀ s.doStop.state := by
  refine ite_reply_limited h ?_
  split
  · exact stopWalk_limited h
  · exact ite_reply_limited h (stopHold_limited h)
  all_goals exact h

theorem continueAt_limited (n : NextStep) (h : Limited s₀ s) : Limited s₀ (s.continueAt n) := by
  have walking := setBody_limited .walk .host h
  unfold continueAt
  exact bodySettled_limited _ (beginStepShift_limited _ _ (walking.frame rfl))

theorem doContinue_limited (h : Limited s₀ s) : Limited s₀ s.doContinue.state := by
  refine ite_reply_limited h ?_
  split
  case h_3 =>
    refine ite_reply_limited h (ite_reply_limited h (ite_reply_limited h (ite_reply_limited h (ite_reply_limited h ?_))))
    split
    · exact ite_reply_limited h (continueAt_limited _ h)
    · exact h
  all_goals exact h

theorem doReseat_limited (h : Limited s₀ s) : Limited s₀ s.doReseat.state := by
  refine ite_reply_limited h ?_
  split
  case h_6 => exact ite_reply_limited h (bodySettled_limited _ (beginReseat_limited h))
  all_goals exact h

/-! ### Legs, footholds and reflexes -/

theorem beginCalibration_limited (l : Leg) (h : Limited s₀ s) : Limited s₀ (s.beginCalibration l) :=
  stanceUpdate_limited (setCmd_limited_of_ground (by decide) (by decide) _ _ (h.frame rfl))

theorem doCalibrate_limited (b : Option Byte) (h : Limited s₀ s) : Limited s₀ (s.doCalibrate b).state := by
  refine ite_reply_limited h ?_
  split
  · exact h
  · refine ite_reply_limited h ?_
    split
    case h_3 => exact ite_reply_limited h (ite_reply_limited h (beginCalibration_limited _ h))
    all_goals exact h

theorem withdraw_limited (l : Leg) (h : Limited s₀ s) : Limited s₀ (s.withdraw l) := by
  unfold withdraw
  extract_lets marked limp unmarked left emptied removed
  have marks : Limited s₀ marked := h.frame rfl
  have limps : Limited s₀ limp := (setVerified_limited l false
    (setCmd_limited_of_ground (by decide) (by decide) _ _ marks)).frame (endOverload_limits _ _)
  have unmarks : Limited s₀ unmarked := limps.frame rfl
  have leaves : Limited s₀ left := unmarks.frame (slmLeave_limits _ _)
  exact stanceUpdate_limited (postNote_limited _ (leaves.frame rfl))

theorem doWithdraw_limited (b : Option Byte) (h : Limited s₀ s) : Limited s₀ (s.doWithdraw b).state := by
  refine ite_reply_limited h ?_
  split
  · exact h
  · refine ite_reply_limited h ?_
    split
    · exact h
    · exact h
    · exact ite_reply_limited h (ite_reply_limited h (withdraw_limited _ h))
    · exact ite_reply_limited h (ite_reply_limited h (ite_reply_limited (h.frame rfl) (withdraw_limited _ (h.frame rfl))))
    · exact h

theorem admitAgain_limited (l : Leg) (h : Limited s₀ s) : Limited s₀ (s.admitAgain l) := by
  unfold admitAgain
  extract_lets marked updated
  have kept : Limited s₀ updated := stanceUpdate_limited (postNote_limited _ (h.frame rfl))
  split
  · exact bodySettled_limited _ (beginReseat_limited (setTarget_limited _ _ kept))
  · exact kept

theorem doAdmit_limited (b : Option Byte) (h : Limited s₀ s) : Limited s₀ (s.doAdmit b).state := by
  refine ite_reply_limited h ?_
  split
  · exact h
  · split
    · exact h
    · exact h
    · exact ite_reply_limited h (ite_reply_limited h (admitAgain_limited _ h))
    · exact ite_reply_limited h (ite_reply_limited h (ite_reply_limited h (admitAgain_limited _ h)))
    · exact h

@[simp] theorem doPlan_limits (s : State) (l n : Option Byte) (b : List Byte) :
    (s.doPlan l n b).state.limits = s.limits := by
  unfold doPlan
  dsimp only
  repeat' split
  all_goals rfl

@[simp] theorem doUnplan_limits (s : State) (l t : Option Byte) : (s.doUnplan l t).state.limits = s.limits := by
  unfold doUnplan
  dsimp only
  repeat' split
  all_goals rfl

@[simp] theorem doUnplanAll_limits (s : State) (l : Option Byte) : (s.doUnplanAll l).state.limits = s.limits := by
  unfold doUnplanAll
  repeat' split
  all_goals rfl

@[simp] theorem doSwap_limits (s : State) (l : Option Byte) (b : List Byte) :
    (s.doSwap l b).state.limits = s.limits := by
  unfold doSwap
  repeat' split
  all_goals rfl

theorem reflexesOn_limited (h : Limited s₀ s) : Limited s₀ s.reflexesOn := by
  unfold reflexesOn
  refine ite_limited (h.frame rfl) ?_
  split
  case h_3 => exact enableRise_limited (h.frame rfl)
  all_goals exact h.frame rfl

theorem doReflexesOn_limited (h : Limited s₀ s) : Limited s₀ s.doReflexesOn.state :=
  ite_reply_limited h (reflexesOn_limited h)

theorem doReflexesOff_limited (h : Limited s₀ s) : Limited s₀ s.doReflexesOff.state :=
  ite_reply_limited h (h.frame rfl)

theorem resumeBottom_limited (c : Context) (h : Limited s₀ s) : Limited s₀ (s.resumeBottom c) := by
  unfold resumeBottom
  split
  · exact resumeAsHold_limited _ _ _ _ (h.frame rfl)
  · exact setBody_limited _ _ (h.frame rfl)
  · exact setBody_limited _ _ h
  · exact setBody_limited _ _ h
  · extract_lets _ counted told
    have tells : Limited s₀ told := ite_limited (postStride_limited (h.frame rfl)) (h.frame rfl)
    exact setBody_limited _ _ (tells.frame rfl)
  · exact setBody_limited _ _ h
  · exact h

theorem resumeBody_limited (h : Limited s₀ s) : Limited s₀ s.resumeBody := by
  unfold resumeBody
  extract_lets before bottom _ _ cleared unlisted restored noted
  have clears : Limited s₀ cleared := (h.restack (stack := []) fun _ => by simp).frame rfl
  have unlists : Limited s₀ unlisted := clears.frame rfl
  have restores : Limited s₀ restored := by
    unfold restored
    clear_value unlisted
    generalize bottom = context
    cases context with
    | some ctx => exact resumeBottom_limited _ unlists
    | none => exact unlists
  exact takePending_limited (bodySettled_limited _ (postNote_limited _ restores))

theorem doResume_limited (h : Limited s₀ s) : Limited s₀ s.doResume.state := by
  refine ite_reply_limited h ?_
  split
  case h_3 =>
    split
    · exact resumeBody_limited h
    · exact h
  all_goals exact h

/-! ### Items -/

theorem tellGeometry_limited (b : List Byte) (h : Limited s₀ s) : Limited s₀ (s.tellGeometry b).state := by
  refine ite_reply_limited h (ite_reply_limited h ?_)
  split
  · exact h
  · exact ite_reply_limited (h.frame rfl) h

theorem tellOdometer_limited (v : Int) (h : Limited s₀ s) : Limited s₀ (s.tellOdometer v).state :=
  ite_reply_limited h (ite_reply_limited (zoneLookup_limited _ (h.frame rfl)) h)

/-- R109: an entry told replaces one; the table keeps its size. -/
theorem tellZone_limited (i : Nat) (b : List Byte) (h : Limited s₀ s) : Limited s₀ (s.tellZone i b).state := by
  refine ite_reply_limited h (ite_reply_limited h ?_)
  split
  · exact h
  · exact ite_reply_limited h (ite_reply_limited h (zoneLookup_limited _ (h.frame (by simp [limits]))))

@[simp] theorem tellReflexItem_limits (s : State) (c : Nat) (l : Leg) (v : Option (Nat × Nat)) :
    (s.tellReflexItem c l v).state.limits = s.limits := by
  unfold tellReflexItem
  repeat' split
  all_goals rfl

@[simp] theorem tellWindow_limits (s : State) (l : Leg) (b : List Byte) :
    (s.tellWindow l b).state.limits = s.limits := by
  unfold tellWindow
  repeat' split
  all_goals rfl

theorem tellMask_limited (b : List Byte) (framed : s.hli.link = .framed) (h : Limited s₀ s) :
    Limited s₀ (s.tellMask b).state := by
  unfold tellMask
  split
  · exact h
  · exact h.reline framed framed id id

@[simp] theorem tellDiscard_limits (s : State) (u : Nat) : (s.tellDiscard u).state.limits = s.limits := by
  unfold tellDiscard
  repeat' split
  all_goals rfl

theorem doTell_limited (u i : Nat) (b : List Byte) (framed : s.hli.link = .framed) (h : Limited s₀ s) :
    Limited s₀ (s.doTell u i b).state := by
  unfold doTell
  split
  · exact tellMask_limited _ framed h
  · exact tellGeometry_limited _ h
  · exact tellOdometer_limited _ h
  · exact tellZone_limited _ _ h
  · refine ite_reply_limited ?_ (h.frame (tellDiscard_limits ..))
    split
    · exact h.frame (tellReflexItem_limits ..)
    · exact h.frame (tellDiscard_limits ..)
  · split
    · exact h.frame (tellWindow_limits ..)
    · exact h.frame (tellDiscard_limits ..)
  · exact h.frame (tellDiscard_limits ..)

/-! ### Frames, answers and the line -/

theorem doReset_limited (framed : s.hli.link = .framed) (h : Limited s₀ s) : Limited s₀ s.doReset.state :=
  h.reline framed framed id id

theorem judgeDo_limited (a : Nat) (b : List Byte) (framed : s.hli.link = .framed) (h : Limited s₀ s) :
    Limited s₀ (s.judgeDo a b).state := by
  unfold judgeDo
  split
  · exact doRise_limited h
  · exact doSettle_limited h
  · exact doStride_limited _ _ h
  · exact doStop_limited h
  · exact doContinue_limited h
  · exact doReseat_limited h
  · exact doCalibrate_limited _ h
  · exact doWithdraw_limited _ h
  · exact doAdmit_limited _ h
  · exact h.frame (doPlan_limits ..)
  · split
    · exact h.frame (doUnplan_limits ..)
    · exact h.frame (doUnplanAll_limits ..)
    · exact h.frame (doUnplan_limits ..)
  · exact h.frame (doSwap_limits ..)
  · split
    · exact doReflexesOn_limited h
    · exact doReflexesOff_limited h
    · exact ite_reply_limited h h
  · exact doResume_limited h
  · exact doReset_limited framed h
  · exact h

theorem judgeFrame_limited (f : Frame) (framed : s.hli.link = .framed) (h : Limited s₀ s) :
    Limited s₀ (s.judgeFrame f).state := by
  unfold judgeFrame
  split
  · rwa [doAsk_state]
  · exact doTell_limited _ _ _ framed h
  · exact judgeDo_limited _ _ framed h
  · exact h

theorem mayTakeFrame_framed (h : s.mayTakeFrame = true) : s.hli.link = .framed := by
  simp only [mayTakeFrame, Bool.and_eq_true, beq_iff_eq] at h
  exact h.1.1

/-- R191: an ANSWER is placed in FRAMED, where its message was taken. -/
theorem answer_limited (q : Byte) {f : State → Reply} (framed : s.hli.link = .framed) (hf : Limited s (f s).state) :
    Limited s (s.answer q f) :=
  hf.reline (hf.link.trans framed) (hf.link.trans framed) id id

theorem respond_limited (q : Byte) {f : State → Reply} (hf : s.hli.link = .framed → Limited s (f s).state) :
    Limited s (s.respond q f) := by
  unfold respond
  split
  · rename_i may
    have framed := mayTakeFrame_framed may
    exact answer_limited q framed (hf framed)
  · exact .refl s

theorem takeFrame_limited (h : Limited s₀ s) : Limited s₀ s.takeFrame := by
  unfold takeFrame
  split
  · rename_i may
    have framed := mayTakeFrame_framed may
    split
    · rename_i f rest taken
      have shorter : Limited s₀ { s with hli.input := rest } := h.reline framed framed (fun full => by
        rw [taken, List.length_cons] at full
        exact (Nat.le_succ _).trans full) id
      exact shorter.trans (answer_limited _ framed (judgeFrame_limited _ framed (.refl _)))
    · exact h
  · exact h

/-- R190: a frame is queued where there is room. -/
theorem acceptFrame_limited (f : Frame) (framed : s.hli.link = .framed) (h : Limited s₀ s) :
    Limited s₀ (s.acceptFrame f) := by
  unfold acceptFrame
  split
  · rename_i room
    refine takeFrame_limited (h.reline framed framed (fun _ => ?_) id)
    simpa [Config.inputQueueCapacity] using Nat.succ_le_of_lt room
  · exact postFault_limited _ _ h

theorem frameComplete_limited (b : List Byte) (framed : s.hli.link = .framed) (h : Limited s₀ s) :
    Limited s₀ (s.frameComplete b) := by
  have idle : Limited s₀ { s with hli.receiver := none } := h.reline framed framed id id
  unfold frameComplete
  dsimp only
  split
  · exact acceptFrame_limited _ framed idle
  · exact idle

theorem receiveByte_limited (b : Byte) (h : Limited s₀ s) : Limited s₀ (s.receiveByte b) := by
  unfold receiveByte
  split
  · exact h
  · rename_i framed
    have received (r : Option (List Byte)) : Limited s₀ { s with hli.receiver := r } := h.reline framed framed id id
    split
    · exact ite_limited (received _) h
    · exact ite_limited (received _) (ite_limited (frameComplete_limited _ framed h) (received _))

theorem dropFrame_limited (h : Limited s₀ s) : Limited s₀ s.dropFrame := by
  unfold dropFrame
  split
  · exact h
  · rename_i framed
    exact h.reline framed framed id id

theorem transmitStart_limited (h : Limited s₀ s) : Limited s₀ s.transmitStart := by
  unfold transmitStart
  split
  · rename_i framed _ _
    exact h.reline framed framed id id
  · rename_i n rest framed _ _ queued
    refine h.reline framed framed id fun full => ?_
    rw [queued, List.length_cons] at full
    exact (Nat.le_succ _).trans full
  · exact h

theorem setExternal_limited (b : Bool) (h : Limited s₀ s) : Limited s₀ (s.setExternal b) :=
  ite_limited h (reformLevel_limited _ (h.frame rfl))

theorem sense_limited (b : Bool) (h : Limited s₀ s) : Limited s₀ (s.sense b) := by
  unfold sense
  exact ite_limited (setExternal_limited _ (h.frame rfl)) (h.frame rfl)

/-! ### Resets, and what else leaves SYNC or FRAMED -/

/-- R15, R20, R188: a state that a reset leaves is within the limits, whatever was before. -/
theorem limitsKept_of_reset {m : LegMode} (ground : m = .limp ∨ m = .hold) (cmd : ∀ l, t.cmdOf l = .afterReset m)
    (capacities : WithinCapacities t) (sync : SyncIsEmpty t) : LimitsKept s t where
  air _ k _ hk _ := by
    rcases ground with rfl | rfl <;> simp [inAir, modeOf, cmd k, LegCmd.afterReset] at hk
  targets _ l := by simp [cmd l, LegCmd.afterReset, LegCmd.atReset, Point.zero]
  capacities _ := capacities
  sync _ := sync

theorem powerUp_limitsKept (s : State) : LimitsKept s s.powerUp :=
  limitsKept_of_reset (.inl rfl) (fun l => by cases l <;> rfl)
    ⟨Nat.zero_le _, Nat.zero_le _, Nat.zero_le _, rfl, rfl⟩ fun _ => ⟨rfl, rfl, rfl, rfl, rfl, rfl, rfl, rfl⟩

theorem warmReset_limitsKept (s : State) : LimitsKept s s.warmReset := by
  refine limitsKept_of_reset (m := if s.pc.postureSafe then .limp else .hold) ?_ (fun l => ?_)
    ⟨Nat.zero_le _, Nat.zero_le _, Nat.zero_le _, rfl, rfl⟩ fun _ => ⟨rfl, rfl, rfl, rfl, rfl, rfl, rfl, rfl⟩
  · cases s.pc.postureSafe
    · exact .inr rfl
    · exact .inl rfl
  · cases safe : s.pc.postureSafe <;> simp [warmReset, safe]

/-- R188, R193: a long break leaves an empty link; a DO RESET that was taken resets. -/
theorem enterSync_limitsKept (s : State) : LimitsKept s s.enterSync := by
  unfold enterSync
  split
  · exact warmReset_limitsKept s
  · rename_i taken
    exact limitsKept_of_uncommanded rfl
      (fun ⟨_, _, stack, entries, slots⟩ => ⟨Nat.zero_le _, Nat.zero_le _, stack, entries, slots⟩)
      fun _ _ => ⟨rfl, rfl, rfl, rfl, rfl, rfl, rfl, by simpa using taken⟩

theorem lock_limitsKept (s : State) (r : BitRate) : LimitsKept s (s.lock r) := by
  unfold lock
  extract_lets warm _ locked
  have locks : LimitsKept s locked := limitsKept_of_uncommanded rfl id fun _ framed => nomatch framed
  clear_value warm locked
  split
  · exact locks.trans (postNote_limited _ (.refl _)).toLimitsKept
  · exact locks

theorem lowRun_limitsKept (s : State) (n : Nat) : LimitsKept s (s.lowRun n) := by
  have measured (m : Option BitRate) : LimitsKept s { s with hli.measured := m } :=
    limitsKept_of_uncommanded rfl id id
  unfold lowRun
  split
  · exact (Limited.refl s).toLimitsKept
  · split
    · exact measured _
    · split
      · exact lock_limitsKept _ _
      · exact measured _

theorem transmitDone_limitsKept (s : State) : LimitsKept s s.transmitDone := by
  unfold transmitDone
  split
  · exact (Limited.refl s).toLimitsKept
  · exact limitsKept_of_uncommanded rfl id fun empty sync => by
      obtain ⟨rate, receiver, input, slot, notes, lost, -, taken⟩ := empty sync
      exact ⟨rate, receiver, input, slot, notes, lost, rfl, taken⟩
  · split
    · exact warmReset_limitsKept s
    · have freed : LimitsKept s { s with hli.tx := .free, hli.slot := none } :=
        limitsKept_of_uncommanded rfl id fun empty sync => by
          obtain ⟨rate, receiver, input, -, notes, lost, -, taken⟩ := empty sync
          exact ⟨rate, receiver, input, rfl, notes, lost, rfl, taken⟩
      exact freed.trans (takeFrame_limited (.refl _)).toLimitsKept

theorem setStale_limited (h : Limited s₀ s) : Limited s₀ s.setStale := by
  unfold setStale
  exact ite_limited (h.frame rfl) (postFault_limited _ _ (h.frame rfl))

theorem acceptSample_limited (v : Sample) (h : Limited s₀ s) : Limited s₀ (s.acceptSample v) :=
  swayEvent_limited (recomputeTest_limited (h.frame rfl))

theorem rejectSample_limited (h : Limited s₀ s) : Limited s₀ s.rejectSample := h.frame rfl

theorem tick_limited (s : State) : Limited s s.tick := (Limited.refl s).frame rfl

end State

open State in
/-- R46, R45, R190, R194, R143, R109, R125, R188: every command keeps the limits. -/
theorem exec_limitsKept (c : Instr) (s : State) : ∃ t, exec c s = .next t ∧ LimitsKept s t := by
  have refl := Limited.refl s
  have keeps {t : State} (h : Limited s t) : ∃ u, Host.Outcome.next (φ := Fault) (ρ := Refusal) t = .next u ∧ LimitsKept s u :=
    ⟨t, rfl, h.toLimitsKept⟩
  cases c with
  | powerUpReset => exact ⟨_, rfl, powerUp_limitsKept s⟩
  | warmReset => exact ⟨_, rfl, warmReset_limitsKept s⟩
  | lowRunMeasured n => exact ⟨_, rfl, lowRun_limitsKept s n⟩
  | hostLineBreak =>
    refine ⟨_, rfl, ?_⟩
    split
    · exact enterSync_limitsKept s
    · exact refl.toLimitsKept
  | transmitDone => exact ⟨_, rfl, transmitDone_limitsKept s⟩
  | hostFrameComplete f =>
    refine keeps ?_
    split
    · exact frameComplete_limited _ ‹_› refl
    · exact refl
  | hostFrameByteTimeout => exact keeps (dropFrame_limited refl)
  | hostByteFramingError => exact keeps (dropFrame_limited refl)
  | hostLineLow20Bits => exact keeps (dropFrame_limited refl)
  | hostByteReceived b => exact keeps (receiveByte_limited b refl)
  | takeFrame => exact keeps (takeFrame_limited refl)
  | transmitStart => exact keeps (transmitStart_limited refl)
  | ask q u i => exact keeps (respond_limited _ fun _ => by rwa [doAsk_state])
  | tellReadOnly q u i => exact keeps (respond_limited _ fun framed => doTell_limited _ _ _ framed refl)
  | tellGeometry q b => exact keeps (respond_limited _ fun _ => tellGeometry_limited _ refl)
  | tellOdometer q v => exact keeps (respond_limited _ fun _ => tellOdometer_limited _ refl)
  | tellZoneEntry q i b => exact keeps (respond_limited _ fun _ => tellZone_limited _ _ refl)
  | tellReflexTable q c l k v => exact keeps (respond_limited _ fun _ => refl.frame (tellReflexItem_limits ..))
  | tellSlipWindow q l b => exact keeps (respond_limited _ fun _ => refl.frame (tellWindow_limits ..))
  | tellNoteMask q b => exact keeps (respond_limited _ fun framed => tellMask_limited _ framed refl)
  | rise q => exact keeps (respond_limited _ fun _ => doRise_limited refl)
  | settle q => exact keeps (respond_limited _ fun _ => doSettle_limited refl)
  | stride q n d => exact keeps (respond_limited _ fun _ => doStride_limited _ _ refl)
  | stop q => exact keeps (respond_limited _ fun _ => doStop_limited refl)
  | continueWalk q => exact keeps (respond_limited _ fun _ => doContinue_limited refl)
  | reseat q => exact keeps (respond_limited _ fun _ => doReseat_limited refl)
  | calibrate q l => exact keeps (respond_limited _ fun _ => doCalibrate_limited _ refl)
  | withdraw q l => exact keeps (respond_limited _ fun _ => doWithdraw_limited _ refl)
  | admitLeg q l => exact keeps (respond_limited _ fun _ => doAdmit_limited _ refl)
  | plan q l n b => exact keeps (respond_limited _ fun _ => refl.frame (doPlan_limits ..))
  | unplan q l t => exact keeps (respond_limited _ fun _ => refl.frame (doUnplan_limits ..))
  | unplanAll q l => exact keeps (respond_limited _ fun _ => refl.frame (doUnplanAll_limits ..))
  | swap q l b => exact keeps (respond_limited _ fun _ => refl.frame (doSwap_limits ..))
  | reflexesOn q => exact keeps (respond_limited _ fun _ => doReflexesOn_limited refl)
  | reflexesOff q => exact keeps (respond_limited _ fun _ => doReflexesOff_limited refl)
  | resume q => exact keeps (respond_limited _ fun _ => doResume_limited refl)
  | reset q => exact keeps (respond_limited _ fun framed => doReset_limited framed refl)
  | attitudeDataReady => exact keeps ((ite_limited (rejectSample_limited refl) refl).frame rfl)
  | sampleRead v =>
    have read : Limited s { s with atp.reading := false } := refl.frame rfl
    refine keeps ?_
    split
    · exact ite_limited (acceptSample_limited _ read) (rejectSample_limited read)
    · exact rejectSample_limited read
  | staleTimeout => exact keeps (setStale_limited refl)
  | tipStaleTimeout => exact keeps (tipTest_limited ((setStale_limited refl).frame rfl))
  | surveyTimeout => exact keeps (ite_limited (endSurvey_limited refl) refl)
  | riseTimeout =>
    refine keeps ?_
    split
    · exact beginLowering_limited _ (postFault_limited _ _ refl)
    · exact refl
  | loweringTimeout =>
    refine keeps ?_
    split
    · exact endLowering_limited _ (postFault_limited _ _ refl)
    · exact refl
  | shiftStall =>
    refine keeps ?_
    split
    · exact ite_limited refl (shiftFailed_limited _ _ refl)
    · exact refl
  | swingTimeout =>
    refine keeps ?_
    split
    · exact ite_limited refl (swingTimedOut_limited _ refl)
    · exact refl
  | propelStall =>
    refine keeps ?_
    split
    · exact ite_limited refl (propelStalled_limited refl)
    · exact refl
  | pauseEnd =>
    refine keeps ?_
    split
    · exact ite_limited refl (boundary_limited _ refl)
    · exact refl
  | placeTimeout =>
    refine keeps ?_
    split
    · exact ite_limited refl (ite_limited (placeExhausted_limited _ refl) (placeUnverified_limited _ refl))
    · exact refl
  | reswingTimeout =>
    have raised (l : Leg) := raiseCause_limited .obstruct l refl
    refine keeps ?_
    split
    · exact ite_limited refl (ite_limited (placeExhausted_limited _ refl)
        (ite_limited (raised _) (lowerAgain_limited _ (raised _))))
    · exact refl
  | steadyTimeout l => exact keeps (refl.frame rfl)
  | braceTimeout =>
    refine keeps ?_
    split
    · exact ite_limited (stageDone_limited refl) refl
    · exact refl
  | crouchTimeout =>
    have crouches : Limited s (s.crouched .timeout) := crouched_limited _ refl
    exact keeps (ite_limited (ite_limited (setProtect_limited crouches) crouches) refl)
  | retractLiftTimeout =>
    refine keeps ?_
    split
    · exact ite_limited (liftTimedOut_limited refl) refl
    · exact refl
  | legRefreshDue l => exact keeps (ite_limited (refl.frame (handToLink_limits s l)) refl)
  | legCommandSend l => exact keeps (refl.frame (handToLink_limits s l))
  | legReportArrival l b =>
    exact keeps (ite_limited ((judgeRecord_limited _ _ refl).frame (endExchange_limits _ _)) refl)
  | legReportTimeout l =>
    exact keeps (ite_limited ((missReport_limited _ refl).frame (endExchange_limits _ _)) refl)
  | calibTimeout l =>
    refine keeps ?_
    split
    · exact calibFail_limited _ refl
    · exact calibFail_limited _ refl
    · exact refl
  | calibSettleEnd l =>
    refine keeps ?_
    split
    · exact postNote_limited _ (calibEnd_limited _ (refl.frame rfl))
    · exact refl
  | holdTimerExpiry l =>
    exact keeps (ite_limited (ite_limited (levelFall_limited l (refl.frame rfl)) (refl.frame rfl)) refl)
  | hotzSense b =>
    refine keeps ?_
    split
    · exact sense_limited b refl
    · exact refl
  | hotzDriveWindow => exact keeps (refl.frame rfl)
  | driveWindowEnd => exact keeps (refl.frame rfl)

open State in
/-- R46, R45, R190, R194, R143, R109, R125, R188: so does every step, a millisecond among them. -/
theorem step_limitsKept {s t : State} (h : step s = .next t) : LimitsKept s t := by
  unfold step at h
  split at h
  · obtain rfl := Host.Outcome.next.inj h
    exact (tick_limited s).toLimitsKept
  · rename_i c rest _
    obtain ⟨u, next, kept⟩ := exec_limitsKept c { s with pending := rest }
    obtain rfl := Host.Outcome.next.inj (next.symm.trans h)
    exact ((Limited.refl s).frame (t := { s with pending := rest }) rfl).toLimitsKept.trans kept

end Sys2Proof.Machine

open Sys2Proof Sys2Proof.Machine

/-- Settles O4: a leg is sent into the air only where no other is there, and every step keeps that. -/
theorem oneLegInAirIsKept : Obligations.OneLegInAirIsKept := fun _ _ one h => (step_limitsKept h).air one

/-- Settles O8: every step keeps the targets in range, the lists within their capacities, and SYNC empty. -/
theorem targetsCapacitiesAndSyncStaySound : Obligations.TargetsCapacitiesAndSyncStaySound :=
  ⟨fun _ _ range h => (step_limitsKept h).targets range, fun _ _ within h => (step_limitsKept h).capacities within,
    fun _ _ empty h => (step_limitsKept h).sync empty⟩

end


section
/-! ## O30: the odometer and the zone in force (R68, R114, R115) -/

namespace Sys2Proof.Machine

/-- R114: a valid entry whose limit is at or above an odometer. -/
def ZoneEntry.covers (e : ZoneEntry) (odometer : Nat) : Bool := e.valid && decide (odometer ≤ e.limit)

theorem ZoneEntry.covers_iff {e : ZoneEntry} {odometer : Nat} :
    e.covers odometer = true ↔ e.valid = true ∧ odometer ≤ e.limit := by
  simp [covers]

/-- R114: the lookup finds the first entry that covers the odometer, or names the built-in defaults where none does. -/
theorem lookupIn_cases (entries : List ZoneEntry) (odometer : Nat) :
    ((∀ e ∈ entries, e.covers odometer = false) ∧ lookupIn entries odometer = 255) ∨
      ∃ e, entries[lookupIn entries odometer]? = some e ∧ e.covers odometer = true ∧
        ∀ (i : Nat) (f : ZoneEntry), entries[i]? = some f → f.covers odometer = true → lookupIn entries odometer ≤ i := by
  cases found : entries.findIdx? fun e => e.covers odometer with
  | none =>
    have lookup : lookupIn entries odometer = 255 := by
      simp only [lookupIn]
      exact congrArg (fun o : Option Nat => match o with | some i => i | none => Config.defaultsIndex) found
    exact .inl ⟨List.findIdx?_eq_none_iff.mp found, lookup⟩
  | some j =>
    have lookup : lookupIn entries odometer = j := by
      simp only [lookupIn]
      exact congrArg (fun o : Option Nat => match o with | some i => i | none => Config.defaultsIndex) found
    obtain ⟨inside, covers, first⟩ := List.findIdx?_eq_some_iff_getElem.mp found
    rw [lookup]
    refine .inr ⟨entries[j], List.getElem?_eq_getElem inside, covers, fun i f hf hc => ?_⟩
    by_contra before
    obtain ⟨_, rfl⟩ := List.getElem?_eq_some_iff.mp hf
    exact first i (by omega) hc

/-- R115: what a lookup makes of an index that it finds. -/
theorem State.zoneLookup_eq (s : State) (r : ZoneReason) :
    s.zoneLookup r =
      let new := lookupIn s.ztb.entries s.ssq.odometer
      let looked := { s with ztb.inForce := new }
      if new = s.ztb.inForce then looked else looked.postNote (.zone s.ztb.inForce new s.ssq.odometer r) := by
  unfold State.zoneLookup
  dsimp only
  split
  · rename_i same
    simp [same]
  · rfl

end Sys2Proof.Machine

open Sys2Proof Sys2Proof.Machine

/-- Settles O30: the tests of R68 in their order, the lookup of the value told, and what a lookup finds. -/
theorem odometerIsToldAndLookedUp : Obligations.OdometerIsToldAndLookedUp := by
  refine ⟨fun s q v ready => ?_, fun entries odometer _ => ?_⟩
  · have told : exec (.tellOdometer q v) s = .next ((s.tellOdometer v).state.answered q (s.tellOdometer v).status
        (s.tellOdometer v).payload) := congrArg _ (State.respond_of_ready ready q _)
    rw [told]
    refine ⟨fun latched => ?_, fun clear outside => ?_, fun clear lower upper => ?_⟩
    · simp [State.tellOdometer, latched, State.reply, Payload.empty]
    · have refused : ¬(0 ≤ v ∧ v ≤ Config.odometerMax) := by
        simp only [Config.odometerMax]
        omega
      simp [State.tellOdometer, clear, refused, State.reply, Payload.empty]
    · have taken : 0 ≤ v ∧ v ≤ Config.odometerMax := ⟨lower, upper⟩
      simp only [State.tellOdometer, clear, taken, and_self, if_true, Bool.false_eq_true, if_false, State.reply,
        State.zoneLookup_eq, Payload.empty]
  · rcases lookupIn_cases entries odometer with ⟨none, lookup⟩ | ⟨e, at_index, covers, first⟩
    · refine ⟨fun i e he valid within => ?_, .inl lookup⟩
      have covered := ZoneEntry.covers_iff.mpr ⟨valid, within⟩
      rw [none e (List.mem_of_getElem? he)] at covered
      cases covered
    · exact ⟨fun i f hf valid within => first i f hf (ZoneEntry.covers_iff.mpr ⟨valid, within⟩),
        .inr ⟨e, at_index, ZoneEntry.covers_iff.mp covers⟩⟩

end


section
/-! ## A body state settled where a test of TIP raises nothing (R39, R40, R140) -/

namespace Sys2Proof.Machine

namespace State

variable {s : State}

/-- R40: a test that raises nothing writes the marks of the test alone. -/
theorem tipTest_of_steady (h : Steady s) :
    ∃ condition raised, s.tipTest = { s with scu.tipCondition := condition, scu.tipRaised := raised } := by
  rcases tipTestWith_cases raiseTip s with ⟨-, e⟩ | ⟨-, -, e⟩ | ⟨-, -, -, e⟩ | ⟨-, holds, unraised, -⟩
  · exact ⟨s.scu.tipCondition, false, e⟩
  · exact ⟨false, false, e⟩
  · exact ⟨true, s.scu.tipRaised, e⟩
  · rcases h with h | h
    · rw [h] at holds
      cases holds
    · rw [h] at unraised
      cases unraised

/-- R40, R140: where no rise is due, a change of the body state brings the test alone. -/
theorem bodySettled_of_no_rise {b : BodyState} (hne : s.pc.body ≠ b)
    (hw : s.tipTest.rxu.waiting = false ∨ (s.tipTest.pc.body ≠ .stand ∧ s.tipTest.pc.body ≠ .hold)) :
    s.bodySettled b = s.tipTest := by
  have none : (s.tipTest.rxu.waiting && (s.tipTest.pc.body == .stand || s.tipTest.pc.body == .hold)) = false := by
    rcases hw with hw | ⟨hstand, hhold⟩
    · rw [hw, Bool.false_and]
    · rw [beq_false_of_ne hstand, beq_false_of_ne hhold, Bool.or_false, Bool.and_false]
  unfold bodySettled
  rw [if_neg hne]
  dsimp only
  rw [none]
  rfl

theorem bodySettled_of_steady {b : BodyState} (hne : s.pc.body ≠ b) (h : Steady s)
    (hw : s.rxu.waiting = false ∨ s.pc.body = .walk) :
    ∃ condition raised, s.bodySettled b = { s with scu.tipCondition := condition, scu.tipRaised := raised } := by
  obtain ⟨condition, raised, tested⟩ := tipTest_of_steady h
  refine ⟨condition, raised, (bodySettled_of_no_rise hne ?_).trans tested⟩
  rw [tested]
  refine hw.imp id fun walking => ?_
  constructor <;> simp [walking]

/-- R5: into another state in which a body stands, not UNSETTLED, which ends the survey. -/
theorem setBody_of_other {b : BodyState} (r : BodyReason) (h : s.pc.body.mayBecome b = true) (hb : b.standing = true)
    (hu : b ≠ .unsettled) (hne : b ≠ s.pc.body) :
    s.setBody b r = { s with pc.body := b, scu.survey := false, scu.surveyTimer := none,
                             hli := (s.postNote (.body s.pc.body b r)).hli } := by
  rw [setBody_of_standing r h hb hu, if_neg hne]
  exact postNote_eq_of_hli _ rfl

/-! ### What a TIP leaves of the walk -/

/-- R49: the count and the direction of a walk. -/
def goal (s : State) : Nat × Direction := (s.ssq.count, s.ssq.dir)

theorem goal_of_uncommanded {t : State} (h : t.ssq.uncommanded = s.ssq.uncommanded) : t.goal = s.goal := by
  have kept := congrArg (fun x : Strider => (x.count, x.dir)) h
  exact kept

theorem goal_of_ssq {t : State} (h : t.ssq = s.ssq) : t.goal = s.goal := by
  rw [goal, goal, h]

theorem setProtect_goal (s : State) : s.setProtect.goal = s.goal := by
  unfold setProtect
  split
  · rfl
  · refine (foldl_keeps goal (holdLeg_keeps goal (fun s l => goal_of_uncommanded (setCmd_uncommanded ..))
      (fun s => goal_of_ssq (restanced_ssq s)) (fun _ _ _ => rfl) fun s => goal_of_ssq ?_) _ _).trans
        (goal_of_ssq (postNote_ssq _ _))
    rw [heldTip, postNote_ssq]

theorem setProtect_body (s : State) : s.setProtect.pc.body = s.pc.body := by
  unfold setProtect
  split
  · rfl
  · rw [foldl_keeps State.pc holdLeg_pc, postFault_pc]

/-- R154, R158: what raising TIP does in a body that stands. -/
theorem raiseTip_cases (hb : s.pc.body.standing = true) :
    (∃ dropped hli, s.raiseTip = { s with rxu.dropped := dropped, hli := hli }) ∨
      s.raiseTip = (s.entered crouchReflex).beginCrouch ∨ s.raiseTip = s.overflow .tip none := by
  by_cases noted : s.pc.protect = true ∨ s.rxu.crouch ≠ .clear
  · exact .inl (raiseTip_not_taken noted)
  · obtain ⟨hp, hc⟩ := not_or.mp noted
    by_cases room : s.rxu.stack.length < Config.contextCapacity
    · exact .inr (.inl (raiseTip_taken hb (by simpa using hp) (not_not.mp hc) room))
    · exact .inr (.inr (by simp [raiseTip, hp, not_not.mp hc, room]))

/-- R154, R155: a TIP keeps the count and the direction, and takes the body nowhere but into RECOVER. -/
theorem tipTest_goal (s : State) :
    s.tipTest.goal = s.goal ∧ (s.tipTest.pc.body = s.pc.body ∨ s.tipTest.pc.body = .recover) := by
  have raised {s : State} (hb : s.pc.body.standing = true) :
      s.raiseTip.goal = s.goal ∧ (s.raiseTip.pc.body = s.pc.body ∨ s.raiseTip.pc.body = .recover) := by
    rcases raiseTip_cases hb with ⟨dropped, hli, e⟩ | e | e <;> rw [e]
    · exact ⟨rfl, .inl rfl⟩
    · have crouched : (s.entered crouchReflex).beginCrouch.goal = (s.entered crouchReflex).goal :=
        goal_of_uncommanded (crouchAll_uncommanded _)
      refine ⟨crouched, .inr ?_⟩
      rw [beginCrouch_pc]
      rfl
    · unfold overflow
      rw [setProtect_goal, setProtect_body, postNote_pc]
      exact ⟨goal_of_ssq (postNote_ssq _ _), .inl rfl⟩
  unfold tipTest
  rcases tipTestWith_cases raiseTip s with ⟨-, e⟩ | ⟨-, -, e⟩ | ⟨-, -, -, e⟩ | ⟨tested, -, -, e⟩ <;> rw [e]
  · exact ⟨rfl, .inl rfl⟩
  · exact ⟨rfl, .inl rfl⟩
  · exact ⟨rfl, .inl rfl⟩
  · exact raised (s := { s with scu.tipCondition := true, scu.tipRaised := true }) (standing_of_tipTested tested)

/-- R40, R154: nor does the change of the body state to WALK. -/
theorem bodySettled_goal {b : BodyState} (hne : s.pc.body ≠ b) (hw : s.pc.body = .walk) :
    (s.bodySettled b).goal = s.goal := by
  obtain ⟨kept, body⟩ := tipTest_goal s
  rw [bodySettled_of_no_rise hne (.inr ?_), kept]
  rcases body with body | body <;> simp [body, hw]

/-! ### A STRIDE -/

/-- R50, R51, R54: the SHIFT of the first step of a stride. -/
theorem beginStride_eq (s : State) :
    s.beginStride =
      { s with ssq := { s.ssq with
          order := s.zone.order.walked s.ssq.dir, index := 1, phase := .shift,
          stepping := some (s.zone.order.walked s.ssq.dir).first, phaseTimer := some 0,
          latched := s.latchStep.ssq.latched } } := rfl

/-- R49: the walk as a STRIDE sets it up, before the change of the body state is settled. -/
def strideSet (s : State) (count : Nat) (dir : Direction) : State :=
  { s with
    pc.body := .walk, scu.survey := false, scu.surveyTimer := none,
    hli := (s.postNote (.body s.pc.body .walk .host)).hli,
    ssq := { s.ssq with
      count := count, dir := dir, stopMark := false, order := s.zone.order.walked dir, index := 1, phase := .shift,
      stepping := some (s.zone.order.walked dir).first, phaseTimer := some 0, latched := s.latchStep.ssq.latched } }

theorem beginWalk_eq (hb : s.pc.body = .stand) (count : Nat) (dir : Direction) :
    s.beginWalk count dir = (s.strideSet count dir).bodySettled .stand := by
  have may : s.pc.body.mayBecome .walk = true := by rw [hb]; rfl
  have walking := setBody_of_other (s := { s with ssq.count := count, ssq.dir := dir, ssq.stopMark := false }) .host may
    rfl (by decide) (by simp [hb])
  have line := postNote_hli_congr (s := { s with ssq.count := count, ssq.dir := dir, ssq.stopMark := false }) (t := s)
    (.body s.pc.body .walk .host) rfl
  unfold beginWalk strideSet
  dsimp only
  rw [walking, line, beginStride_eq, hb]
  rfl

/-- R48: the count and direction that a STRIDE carries. -/
def strideDir (dir : Byte) : Direction := if dir = 0 then .forward else .backward

theorem ofCode?_strideDir (dir : Byte) :
    (1 < dir.toNat ∧ ((some dir).bind fun d => Direction.ofCode? d.toNat) = none) ∨
      (¬ 1 < dir.toNat ∧ ((some dir).bind fun d => Direction.ofCode? d.toNat) = some (strideDir dir)) := by
  have codes : dir.toNat = 0 ∨ dir.toNat = 1 ∨ 2 ≤ dir.toNat := by omega
  rcases codes with h | h | h
  · have zero : dir = 0 := BitVec.eq_of_toNat_eq h
    subst zero
    exact .inr ⟨by decide, rfl⟩
  · have one : dir = 1 := BitVec.eq_of_toNat_eq h
    subst one
    exact .inr ⟨by decide, rfl⟩
  · refine .inl ⟨h, ?_⟩
    obtain ⟨n, hn⟩ := Nat.exists_eq_add_of_le' h
    simp [Direction.ofCode?, hn]

/-- The tests of R48, as the statement chains them, are those of the model. -/
theorem doStride_eq (s : State) (count dir : Byte) :
    s.doStride (some count) (some dir) = match strideRefusal s count dir with
      | some st => s.reply st
      | none => (s.beginWalk (min 127 count.toNat) (strideDir dir)).reply (if 127 < count.toNat then .clamped else .ok) := by
  have unlinked : (!(Leg.all.all fun l => s.admitted l && s.linkOk l)) =
      Leg.all.any fun l => decide ((s.link l).withdrawn = true ∨ (s.link l).link ≠ .ok) := by
    rw [List.not_all_eq_any_not]
    congr 1
    funext l
    cases hw : (s.link l).withdrawn <;> cases hf : (s.link l).link <;> simp [admitted, linkOk, hw, hf]
  have unready : (!(Leg.all.all fun l => s.modeOf l == .stance && s.verifiedOf l)) =
      Leg.all.any fun l => decide (s.modeOf l ≠ .stance ∨ s.verifiedOf l = false) := by
    rw [List.not_all_eq_any_not]
    congr 1
    funext l
    cases hm : s.modeOf l <;> cases hv : s.verifiedOf l <;> rfl
  have pending : (!s.rxu.pending.isEmpty) = decide (s.rxu.pending ≠ []) := by
    cases s.rxu.pending <;> rfl
  unfold doStride strideRefusal
  rw [unlinked, unready, pending]
  cases s.pc.protect
  case true => rfl
  case false =>
    cases s.pc.body
    case stand =>
      cases s.pls.reseat
      case true => rfl
      case false =>
        rcases ofCode?_strideDir dir with ⟨far, none⟩ | ⟨near, some⟩
        · rw [none]
          simp [far, reply]
        · rw [some]
          simp only [Bool.false_eq_true, if_false, reduceCtorEq, or_self, ne_eq, not_true_eq_false, near, or_false,
            decide_eq_true_eq]
          split_ifs <;> rfl
    all_goals rfl

end State
end Sys2Proof.Machine
end

section

open Sys2Proof Sys2Proof.Machine

/-- Settles O39: the tests of R48 in their order, the count and direction kept whatever the test of TIP does, and the walk
that begins where it raises nothing. -/
theorem strideIsJudgedAndBegins : Obligations.StrideIsJudgedAndBegins := by
  have told (s : State) (q count dir : Byte) (ready : Ready s) : exec (.stride q count dir) s =
      .next ((s.doStride (some count) (some dir)).state.answered q (s.doStride (some count) (some dir)).status
        (s.doStride (some count) (some dir)).payload) :=
    congrArg _ (State.respond_of_ready ready q _)
  have standing (s : State) (count dir : Byte) (h : strideRefusal s count dir = none) : s.pc.body = .stand := by
    by_contra hb
    unfold strideRefusal at h
    split_ifs at h
  have accepted (s : State) (q count dir : Byte) (ready : Ready s) (h : strideRefusal s count dir = none) :
      exec (.stride q count dir) s =
        .next (((s.strideSet (min 127 count.toNat) (State.strideDir dir)).bodySettled .stand).answered q
          (if 127 < count.toNat then .clamped else .ok) (.bytes [])) := by
    rw [told s q count dir ready, State.doStride_eq, h, State.beginWalk_eq (standing s count dir h)]
    rfl
  have walks (s : State) (count : Nat) (dir : Direction) : (s.strideSet count dir).pc.body ≠ .stand := by simp [State.strideSet]
  refine ⟨fun s q count dir ready => ⟨fun st h => ?_, fun h => ?_⟩, fun s q count dir ready h steady => ?_⟩
  · rw [told s q count dir ready, State.doStride_eq, h]
    rfl
  · have goal := State.bodySettled_goal (walks s (min 127 count.toNat) (State.strideDir dir)) rfl
    exact ⟨_, accepted s q count dir ready h, rfl, congrArg Prod.fst goal, congrArg Prod.snd goal⟩
  · obtain ⟨condition, raised, settled⟩ :=
      State.bodySettled_of_steady (walks s (min 127 count.toNat) (State.strideDir dir)) steady (.inr rfl)
    refine ⟨_, accepted s q count dir ready h, ?_⟩
    rw [settled, State.strideSet, standing s count dir h]
    refine ⟨rfl, rfl, rfl, rfl, rfl, rfl, rfl, ?_, ?_, rfl, rfl, rfl, rfl, rfl, rfl, rfl, rfl, rfl, rfl, rfl, rfl, rfl,
      rfl, rfl⟩
    · rintro rfl
      rfl
    · rintro rfl
      rfl

end


section
/-! ## A STOP and a CONTINUE (R65, R66, R67) -/

namespace Sys2Proof.Machine

namespace State

variable {s line : State}

/-- R5: the same from a known body state, over the line of another state. -/
theorem setBody_from {a b : BodyState} (r : BodyReason) (ha : s.pc.body = a) (hl : s.hli = line.hli)
    (h : a.mayBecome b = true) (hb : b.standing = true) (hu : b ≠ .unsettled) (hne : b ≠ a) :
    s.setBody b r = { s with pc.body := b, scu.survey := false, scu.surveyTimer := none,
                             hli := (line.postNote (.body a b r)).hli } := by
  subst ha
  rw [setBody_of_other r h hb hu hne, postNote_hli_congr _ hl]

theorem postStride_eq (s : State) : s.postStride = { s with hli := s.postStride.hli } := postNote_eq _ _

/-- R63, R66: the walk is over, from WALK. -/
theorem walkOver_eq (hb : s.pc.body = .walk) (hl : s.hli = line.hli) (r : BodyReason) :
    s.walkOver r =
      { s with
        pc.body := .stand, scu.survey := false, scu.surveyTimer := none, hli := (line.postNote (.body .walk .stand r)).hli,
        ssq := { s.ssq with phase := .idle, stepping := none, phaseTimer := none, next := none, stopMark := false } } :=
  setBody_from r hb hl rfl rfl (by decide) (by decide)

/-- R66: the notes of a walk that a STOP ends. -/
def stopNoted (s : State) (b : BodyState) : State := s.postStride.postNote (.body b .stand .host)

/-- R66: the walk as a STOP ends it, before the change of the body state is settled. -/
def walkStopped (s : State) : State :=
  { s with
    pc.body := .stand, scu.survey := false, scu.surveyTimer := none, hli := (s.stopNoted .walk).hli,
    ssq := { s.ssq with count := 0, phase := .idle, stepping := none, phaseTimer := none, next := none,
                        stopMark := false } }

theorem endByStop_eq (hb : s.pc.body = .walk) : s.endByStop .host = s.walkStopped := by
  have stopped := walkOver_eq (s := { s.postStride with ssq.count := 0 }) (line := s.postStride)
    ((congrArg Posture.body (postStride_pc s)).trans hb) rfl .host
  refine stopped.trans ?_
  rw [walkStopped, stopNoted]
  generalize s.postStride.postNote (.body .walk .stand .host) = noted
  rw [postStride_eq]

/-- R67: the same from HOLD. -/
def holdStopped (s : State) : State :=
  { s with
    pc.body := .stand, scu.survey := false, scu.surveyTimer := none, hli := (s.stopNoted .hold).hli,
    rxu.pending := s.rxu.pending.filter fun e => e.cause.level,
    ssq := { s.ssq with count := 0, next := none } }

theorem stopHold_eq (hb : s.pc.body = .hold) : s.stopHold = s.holdStopped.bodySettled .hold := by
  have ended : setBody (removeEdges { s.postStride with ssq.count := 0, ssq.next := none }) .stand .host =
      s.holdStopped := by
    refine (setBody_from (s := removeEdges { s.postStride with ssq.count := 0, ssq.next := none })
      (line := s.postStride) .host ((congrArg Posture.body (postStride_pc s)).trans hb) rfl rfl rfl (by decide) (by decide)).trans ?_
    rw [holdStopped, stopNoted]
    generalize s.postStride.postNote (.body .hold .stand .host) = noted
    rw [postStride_eq]
    rfl
  unfold stopHold
  dsimp only
  rw [ended, hb]

/-- R66, R64: a STOP in WALK sets the mark, or ends the walk where the phase has no leg to put down. -/
theorem stopWalk_of_marked (h : s.ssq.phase = .swing ∨ s.ssq.phase = .place ∨ s.ssq.phase = .propel) :
    s.stopWalk = { s with ssq.stopMark := true } := by
  unfold stopWalk
  rcases h with h | h | h <;> rw [h]

theorem stopWalk_of_ended (hb : s.pc.body = .walk) (h : s.ssq.phase = .shift ∨ s.ssq.phase = .pause) :
    s.stopWalk = s.walkStopped.bodySettled .walk := by
  unfold stopWalk
  rw [endByStop_eq hb, hb]
  rcases h with h | h <;> rw [h]

/-! ### A CONTINUE -/

/-- R65: the walk as a CONTINUE takes it up, before the change of the body state is settled. -/
def walkContinued (s : State) (n : NextStep) : State :=
  { s with
    pc.body := .walk, scu.survey := false, scu.surveyTimer := none,
    hli := (s.postNote (.body .hold .walk .host)).hli,
    ssq := { s.ssq with
      stopMark := false, index := n.index, phase := .shift, stepping := some n.leg, phaseTimer := some 0,
      order := if n.index = 1 then s.zone.order.walked s.ssq.dir else s.ssq.order,
      latched := s.latchStep.ssq.latched } }

/-- R50, R54: a SHIFT of a stride step writes the walk's own state alone. -/
theorem beginStepShift_eq (s : State) (l : Leg) (i : Nat) :
    s.beginStepShift l i = { s with ssq := (s.beginStepShift l i).ssq } := by
  unfold beginStepShift
  split <;> rfl

theorem continueAt_eq (hb : s.pc.body = .hold) (n : NextStep) :
    s.continueAt n = (s.walkContinued n).bodySettled .hold := by
  have walking := setBody_from (line := s) .host hb rfl (b := .walk) rfl rfl (by decide) (by decide)
  unfold continueAt
  dsimp only
  rw [walking, beginStepShift_eq, beginStepShift_ssq, walkContinued, hb]
  rfl

/-- The tests of R65, as the statement chains them, are those of the model. -/
theorem doContinue_eq (s : State) :
    (∀ st, continueRefusal s = some st → s.doContinue = s.reply st) ∧
      ∀ n, continueRefusal s = none → s.ssq.next = some n → s.doContinue = (s.continueAt n).reply .ok := by
  have unready : (!s.legsReady) = Leg.all.any fun l => decide ((s.link l).withdrawn = true ∨ (s.link l).link ≠ .ok ∨
      s.modeOf l ≠ .stance ∨ s.verifiedOf l = false) := by
    rw [legsReady, List.not_all_eq_any_not]
    congr 1
    funext l
    rw [Bool.eq_iff_iff]
    simp only [admitted, linkOk, Bool.not_and, Bool.not_not, Bool.or_eq_true, Bool.not_eq_eq_eq_not,
      Bool.not_true, beq_eq_false_iff_ne, ne_eq, Bool.decide_or, Bool.decide_eq_true, decide_not, Bool.decide_eq_false,
      decide_eq_false_iff_not]
    tauto
  have pending : (!s.rxu.pending.isEmpty) = decide (s.rxu.pending ≠ []) := by
    cases s.rxu.pending <;> rfl
  unfold doContinue continueRefusal
  rw [unready, pending]
  cases s.pc.protect
  case true => simp
  case false =>
    cases s.pc.body
    case hold =>
      simp only [Bool.false_eq_true, if_false, reduceCtorEq, or_self, ne_eq, not_true_eq_false, decide_eq_true_eq]
      cases s.ssq.next with
      | none =>
        refine ⟨fun st h => ?_, fun n _ hn => by cases hn⟩
        split_ifs at h ⊢ <;> simp_all
      | some n =>
        refine ⟨fun st h => ?_, fun m h hn => ?_⟩
        · split_ifs at h ⊢ <;> simp_all
        · split_ifs at h ⊢ <;> simp_all
    all_goals simp

end State
end Sys2Proof.Machine
end

section

open Sys2Proof Sys2Proof.Machine

/-- Settles O40: the phases of R66 and the body states of R66 and R67. -/
theorem stopActsByPhaseAndState : Obligations.StopActsByPhaseAndState := by
  intro s q ready told ended
  have answers : told = .next (s.doStop.state.answered q s.doStop.status s.doStop.payload) :=
    congrArg _ (State.respond_of_ready ready q _)
  have walk (hp : s.pc.protect = false) (hb : s.pc.body = .walk) :
      told = .next (s.stopWalk.answered q .ok (.bytes [])) := by
    rw [answers]
    simp [State.doStop, hp, hb, State.reply, Payload.empty]
  have hold (hp : s.pc.protect = false) (hb : s.pc.body = .hold) (hr : s.pls.reseat = false) :
      told = .next (s.stopHold.answered q .ok (.bytes [])) := by
    rw [answers]
    simp [State.doStop, hp, hb, hr, State.reply, Payload.empty]
  refine ⟨fun hp => ?_, fun hp => ⟨fun hb hf => ?_, fun hb hf steady hw => ?_, fun hb hr steady hw => ?_,
    fun hb hr => ?_, fun hb => ?_, fun hb => ?_, fun hb => ?_⟩⟩
  · simp [answers, State.doStop, hp, State.reply, Payload.empty]
  · rw [walk hp hb, State.stopWalk_of_marked hf]
  · obtain ⟨condition, raised, settled⟩ :=
      State.bodySettled_of_steady (s := s.walkStopped) (b := .walk) (by simp [State.walkStopped]) steady (.inl hw)
    refine ⟨_, by rw [walk hp hb, State.stopWalk_of_ended hb hf, settled], ?_⟩
    have line : ended.hli = (s.stopNoted .walk).hli := by
      rw [← hb]
      rfl
    rw [line]
    exact ⟨rfl, rfl, ⟨rfl, rfl, rfl, rfl, rfl⟩, rfl, rfl, rfl, rfl, rfl, rfl, rfl, rfl, rfl, rfl, rfl, rfl⟩
  · obtain ⟨condition, raised, settled⟩ :=
      State.bodySettled_of_steady (s := s.holdStopped) (b := .hold) (by simp [State.holdStopped]) steady (.inl hw)
    refine ⟨_, by rw [hold hp hb hr, State.stopHold_eq hb, settled], ?_⟩
    have line : ended.hli = (s.stopNoted .hold).hli := by
      rw [← hb]
      rfl
    rw [line]
    exact ⟨rfl, rfl, rfl, rfl, rfl, rfl, rfl, rfl, rfl, rfl, rfl, rfl⟩
  · simp [answers, State.doStop, hp, hb, hr, State.reply, Payload.empty]
  · simp [answers, State.doStop, hp, hb, State.reply, Payload.empty]
  · rcases hb with hb | hb | hb <;> simp [answers, State.doStop, hp, hb, State.reply, Payload.empty]
  · rcases hb with hb | hb <;> simp [answers, State.doStop, hp, hb, State.reply, Payload.empty]

/-- Settles O41: the tests of R65 in their order, and the walk taken up at the next-step record. -/
theorem continueIsJudgedInOrder : Obligations.ContinueIsJudgedInOrder := by
  intro s q ready
  have told : exec (.continueWalk q) s =
      .next (s.doContinue.state.answered q s.doContinue.status s.doContinue.payload) :=
    congrArg _ (State.respond_of_ready ready q _)
  obtain ⟨refused, accepted⟩ := State.doContinue_eq s
  refine ⟨fun st h => ?_, fun n h next steady => ?_⟩
  · rw [told, refused st h]
    rfl
  · have holding : s.pc.body = .hold := by
      by_contra hb
      unfold continueRefusal at h
      split_ifs at h
    obtain ⟨condition, raised, settled⟩ :=
      State.bodySettled_of_steady (s := s.walkContinued n) (b := .hold) (by simp [State.walkContinued]) steady (.inr rfl)
    refine ⟨_, by rw [told, accepted n h next, State.continueAt_eq holding, settled], ?_⟩
    exact ⟨rfl, rfl, rfl, rfl, rfl, rfl, rfl, rfl, fun first => if_neg first, rfl, rfl, rfl, rfl, rfl, rfl, rfl, rfl, rfl,
      rfl, rfl⟩

end


section
/-! ## The stall timers, the end of a PAUSE, and the swing timers (R57, R59, R62, R64, R80) -/

namespace Sys2Proof.Machine

namespace State

variable {s line : State} {l : Leg}

/-- R53: the walk held before a step, before the change of the body state is settled. -/
def holding (s line : State) (n : NextStep) (r : BodyReason) : State :=
  { s with
    pc.body := .hold, scu.survey := false, scu.surveyTimer := none, hli := (line.postNote (.body .walk .hold r)).hli,
    ssq := { s.ssq with phase := .idle, stepping := none, phaseTimer := none, next := some n } }

theorem enterHold_eq (hb : s.pc.body = .walk) (hl : s.hli = line.hli) (n : NextStep) (r : BodyReason) :
    s.enterHold n r = s.holding line n r :=
  setBody_from (s := { s.idlePhase with ssq.next := some n }) r hb hl rfl rfl (by decide) (by decide)

/-- R57: the note of a stall. -/
def stalledAt (s : State) (l : Leg) : State := s.postNote (.fault .stall (some l) none)

theorem stalledAt_eq (s : State) (l : Leg) : s.stalledAt l = { s with hli := (s.stalledAt l).hli } := postNote_eq _ _

/-- R57: a SHIFT of a walk that stalls. -/
theorem exec_shiftStall_of_striding (hb : s.pc.body = .walk) (hp : s.pc.protect = false) (hs : Striding s)
    (hl : s.ssq.stepping = some l) (hf : s.ssq.phase = .shift) :
    exec .shiftStall s = .next ((s.holding (s.stalledAt l) ⟨l, s.ssq.index⟩ .fault).bodySettled .walk) := by
  have arm : exec .shiftStall s = .next (s.shiftFailed .stall l) := by
    have unfolded : exec .shiftStall s = execShiftStall s := rfl
    rw [unfolded, execShiftStall, hf, hl]
    simp [hp]
  have owner : (s.stalledAt l).owner = .stride := by
    rw [stalledAt_eq]
    exact owner_of_striding hs
  have failed : s.shiftFailed .stall l =
      ((s.stalledAt l).enterHold ⟨l, (s.stalledAt l).ssq.index⟩ .fault).bodySettled (s.stalledAt l).pc.body := by
    unfold stalledAt at owner ⊢
    unfold shiftFailed postFault
    simp only [owner]
  rw [arm, failed]
  generalize hq : s.stalledAt l = q
  rw [stalledAt_eq] at hq
  have walking : q.pc.body = .walk := by rw [← hq]; exact hb
  rw [enterHold_eq walking rfl, walking, ← hq]
  rfl

/-- R62: a PROPEL of a walk that stalls, short of the last step. -/
theorem exec_propelStall_of_step (hb : s.pc.body = .walk) (hp : s.pc.protect = false)
    (hl : s.ssq.stepping = some l) (hf : s.ssq.phase = .propel) (hm : s.ssq.stopMark = false) (hi : s.ssq.index < 4) :
    exec .propelStall s =
      .next ((holding { s with ssq.index := s.ssq.index + 1 } (s.stalledAt l)
        ⟨s.ssq.order.nth (s.ssq.index + 1), s.ssq.index + 1⟩ .fault).bodySettled .walk) := by
  have arm : exec .propelStall s = .next s.propelStalled := by
    have unfolded : exec .propelStall s = execPropelStall s := rfl
    rw [unfolded, execPropelStall, hf]
    simp [hp]
  have failed : s.propelStalled = ((s.stalledAt l).holdAfterStep .fault .done).bodySettled s.pc.body := by
    have unmarked : (s.stalledAt l).ssq.stopMark = false := by rw [stalledAt_eq]; exact hm
    unfold propelStalled postFault
    rw [hl]
    unfold stalledAt at unmarked ⊢
    dsimp only
    rw [unmarked]
    rfl
  rw [arm, failed, hb]
  generalize hq : s.stalledAt l = q
  rw [stalledAt_eq] at hq
  have walking : q.pc.body = .walk := by rw [← hq]; exact hb
  have more : q.lastStep = false := by
    rw [← hq]
    simp [lastStep]
    omega
  have short : q.ssq.index ≠ 4 := by
    rw [← hq]
    exact Nat.ne_of_lt hi
  unfold holdAfterStep
  rw [more, if_neg (by decide), endStep_of_ne short]
  dsimp only
  rw [enterHold_eq (s := { q with ssq.index := q.ssq.index + 1 }) (line := q) walking rfl, ← hq]
  rfl

/-- R64, R52: the end of a PAUSE at which nothing holds the walk. -/
theorem exec_pauseEnd_of_clear (hf : s.ssq.phase = .pause) (hp : s.pc.protect = false) (hm : s.ssq.stopMark = false)
    (hw : s.rxu.waiting = false) (hl : s.rxu.pending = []) (hd : s.tdu.body < 3) (ha : s.scu.attStale = false) :
    exec .pauseEnd s = .next s.beginStride := by
  have arm : exec .pauseEnd s = .next (s.boundary .pause) := by
    have unfolded : exec .pauseEnd s = execPauseEnd s := rfl
    rw [unfolded, execPauseEnd, hf]
    simp [hp]
  have enabled : s.enablesAtBoundary = s := by
    rw [enablesAtBoundary, hw]
    rfl
  have nothing : s.mayTakePending = false := by simp [mayTakePending, hl]
  have free : s.mustHold = false := by simp [mustHold, hl, ha, hd]
  rw [arm, boundary_eq, hm, enabled, nothing, free]
  rfl

/-! ### OBSTRUCT on the pending list -/

/-- R137: a cause on the pending list, once. -/
def listed (s : State) (c : Cause) (l : Leg) : State :=
  { s with rxu.pending := if ⟨c, l⟩ ∈ s.rxu.pending then s.rxu.pending else s.rxu.pending ++ [⟨c, l⟩] }

/-- R137: a cause raised where reflexes are not live waits on the list. -/
theorem raiseCause_of_not_live (c : Cause) (hb : s.pc.body.standing = true) (ha : (s.link l).withdrawn = false)
    (hr : s.rxu.re1 = false) : s.takesAtOnce l = false ∧ s.raiseCause c l = s.listed c l := by
  have later : s.takesAtOnce l = false := by simp [takesAtOnce, hr]
  have admits : s.admitted l = true := by simp [admitted, ha]
  refine ⟨later, ?_⟩
  rcases raiseCause_cases s c l with ⟨h | h, -⟩ | ⟨-, -, -, e⟩ | ⟨h, -⟩
  · rw [hb] at h
    cases h
  · rw [admits] at h
    cases h
  · rw [e]
    unfold pendAdd listed
    split <;> rfl
  · rw [later] at h
    cases h

/-- R74: what the command into PLACING writes and leaves alone. -/
theorem setCmd_placing_effect (q : State) (l : Leg) (p : Point) (c : Int) :
    let t := q.setCmd l .placing p c
    t.pls = q.pls ∧ t.ssq.phase = q.ssq.phase ∧ t.modeOf l = .placing ∧ (t.cmdOf l).target = clampPoint p ∧
      t.rxu = q.rxu ∧ (∀ k, k ≠ l → t.cmdOf k = q.cmdOf k) ∧ t.pc = q.pc ∧ t.fhq = q.fhq ∧ t.atp = q.atp ∧
      t.ztb = q.ztb ∧ t.tdu = q.tdu ∧ t.scu = q.scu ∧ t.hli = q.hli := by
  have uncommanded := setCmd_uncommanded q l .placing p c
  exact ⟨setCmd_pls .., (congrArg Strider.phase uncommanded :), by simp [modeOf], by simp, setCmd_rxu (by decide) ..,
    fun k hk => setCmd_cmdOf_of_ne _ _ _ _ hk, setCmd_pc .., setCmd_fhq .., setCmd_atp .., setCmd_ztb ..,
    setCmd_tdu .., setCmd_scu .., setCmd_hli ..⟩

/-- R59, R60, R74: the swing timer of a step; the placement begins where the foot is. -/
theorem exec_swingTimeout_of_not_live (hf : s.ssq.phase = .swing) (hl : s.ssq.stepping = some l)
    (hp : s.pc.protect = false) (hb : s.pc.body.standing = true) (ha : (s.link l).withdrawn = false)
    (hr : s.rxu.re1 = false) (hair : s.modeOf l = .swing) (hone : OneLegInAir s) (hset : StanceSetCurrent s) :
    ∃ entry, exec .swingTimeout s =
      .next ((placing { s.listed .obstruct l with ssq.phase := .place, ssq.phaseTimer := none } l (s.cmdOf l).target
        (s.cmdOf l).clearance entry).setCmd l .placing (s.cmdOf l).target (s.cmdOf l).clearance) := by
  obtain ⟨later, raised⟩ := raiseCause_of_not_live .obstruct hb ha hr
  have arm : exec .swingTimeout s = .next (s.swingTimedOut l) := by
    have unfolded : exec .swingTimeout s = execSwingTimeout s := rfl
    rw [unfolded, execSwingTimeout, hf, hl]
    simp [hp]
  have placed := beginPlacement_in_air (s := { s.listed .obstruct l with ssq.phase := .place, ssq.phaseTimer := none })
    hair hone hset (s.cmdOf l).target (s.cmdOf l).clearance ((s.headOf l).filter Foothold.inUse)
  refine ⟨_, arm.trans (congrArg _ (Eq.trans ?_ placed))⟩
  rw [swingTimedOut, later, raised]
  rfl

/-- R74, R80: LOWER entered again for a leg that is in the air. -/
theorem lowerAgain_in_air (hair : s.modeOf l = .swing) (hone : OneLegInAir s) (hset : StanceSetCurrent s) :
    s.lowerAgain l =
      setCmd { s with pls.sub := .lower, pls.reswingTimer := none, pls.placeTimer := some 0 } l .placing
        s.pls.attemptTarget (s.cmdOf l).clearance := by
  generalize hq : { s with pls.sub := .lower, pls.reswingTimer := none, pls.placeTimer := some 0 } = q
  have alone : q.otherInAir l = false := by
    rw [← hq]
    exact otherInAir_of_one (s := s) hone (.inl hair)
  have off : q.modeOf l ≠ .stance := by
    have swinging : q.modeOf l = .swing := by
      rw [← hq]
      exact hair
    rw [swinging]
    decide
  have derived : q.stanceDerived = q.scu.stance := by
    rw [← hq]
    exact stanceDerived_of_current (s := s) hset
  have current := (setCmd_placing_stanceDerived off s.pls.attemptTarget (s.cmdOf l).clearance).trans derived
  calc s.lowerAgain l
      = (q.airCmd l .placing s.pls.attemptTarget (s.cmdOf l).clearance).stanceUpdate := by rw [← hq]; rfl
    _ = _ := by
      rw [airCmd, alone, if_neg (by decide)]
      exact stanceUpdateWith_of_current _ _ (current.trans (by rw [setCmd_scu]))

/-- R80: the swing timer of a RESWING. -/
theorem exec_reswingTimeout_of_not_live (hl : s.pls.placement = some l) (hs : s.pls.sub = .reswing)
    (hp : s.pc.protect = false) (hk : (s.link l).link ≠ .lost) (hb : s.pc.body.standing = true)
    (ha : (s.link l).withdrawn = false) (hr : s.rxu.re1 = false) (hair : s.modeOf l = .swing) (hone : OneLegInAir s)
    (hset : StanceSetCurrent s) :
    exec .reswingTimeout s =
      .next (setCmd { s.listed .obstruct l with
          pls.sub := .lower, pls.reswingTimer := none, pls.placeTimer := some 0 } l .placing
        s.pls.attemptTarget (s.cmdOf l).clearance) := by
  obtain ⟨later, raised⟩ := raiseCause_of_not_live .obstruct hb ha hr
  have arm : exec .reswingTimeout s = .next ((s.listed .obstruct l).lowerAgain l) := by
    have unfolded : exec .reswingTimeout s = execReswingTimeout s := rfl
    rw [unfolded, execReswingTimeout, hl, hs]
    simp [hp, hk, later, raised]
  exact arm.trans (congrArg _ (lowerAgain_in_air (s := s.listed .obstruct l) hair hone hset))

end State
end Sys2Proof.Machine
end

section

open Sys2Proof Sys2Proof.Machine

/-- Settles O42: the two stalls of a walk, and the PAUSE that ends with nothing to hold it. -/
theorem stallsHoldAndPausesEnd : Obligations.StallsHoldAndPausesEnd := by
  refine ⟨fun s l hb hp striding steady hw hl => ?_, fun s hf hp hm hw hlist hd ha => ?_⟩
  · have settles (q line : State) (n : NextStep) (hq : Steady q) (hw : q.rxu.waiting = false) :=
      State.bodySettled_of_steady (s := q.holding line n .fault) (b := .walk) (by simp [State.holding]) hq (.inl hw)
    intro noted
    refine ⟨fun hf => ?_, fun hf hm hi => ?_⟩
    · obtain ⟨condition, raised, settled⟩ := settles s (s.stalledAt l) ⟨l, s.ssq.index⟩ steady hw
      refine ⟨_, by rw [State.exec_shiftStall_of_striding hb hp striding hl hf, settled], ?_⟩
      exact ⟨⟨rfl, rfl, rfl, rfl, rfl, rfl, rfl, rfl, rfl, rfl, rfl, rfl, rfl, rfl, rfl, rfl⟩, rfl, rfl⟩
    · obtain ⟨condition, raised, settled⟩ := settles { s with ssq.index := s.ssq.index + 1 } (s.stalledAt l)
        ⟨s.ssq.order.nth (s.ssq.index + 1), s.ssq.index + 1⟩ steady hw
      refine ⟨_, by rw [State.exec_propelStall_of_step hb hp hl hf hm hi, settled], ?_⟩
      exact ⟨⟨rfl, rfl, rfl, rfl, rfl, rfl, rfl, rfl, rfl, rfl, rfl, rfl, rfl, rfl, rfl, rfl⟩, rfl, rfl⟩
  · exact ⟨_, State.exec_pauseEnd_of_clear hf hp hm hw hlist hd ha, rfl, rfl, rfl, rfl, rfl, rfl, rfl, rfl, rfl⟩

/-- Settles O43: OBSTRUCT listed, and the foot lowered from where it is, in a step and in a RESWING. -/
theorem swingsThatTimeOutAreLowered : Obligations.SwingsThatTimeOutAreLowered := by
  refine ⟨fun s l hf hl hp hb ha hr hair hone hset => ?_, fun s l hl hs hp hk hb ha hr hair hone hset => ?_⟩
  · obtain ⟨entry, timedOut⟩ := State.exec_swingTimeout_of_not_live hf hl hp hb ha hr hair hone hset
    obtain ⟨pls, phase, mode, -, rxu, cmd, pc, fhq, atp, ztb, tdu, scu, hli⟩ :=
      State.setCmd_placing_effect (State.placing { s.listed .obstruct l with ssq.phase := .place, ssq.phaseTimer := none } l
        (s.cmdOf l).target (s.cmdOf l).clearance entry) l (s.cmdOf l).target (s.cmdOf l).clearance
    exact ⟨_, timedOut, phase, (congrArg Placer.placement pls :), (congrArg Placer.sub pls :),
      (congrArg Placer.attempt pls :), (congrArg Placer.placeTimer pls :), mode, (congrArg Placer.target pls :),
      (congrArg Placer.attemptTarget pls :), (congrArg Placer.liftClearance pls :), (congrArg Placer.maxReplace pls :),
      (congrArg Placer.surface pls :), (congrArg Reflexes.pending rxu :), cmd, pc, fhq, atp, ztb, tdu, scu, hli⟩
  · obtain ⟨pls, phase, mode, target, rxu, cmd, pc, fhq, atp, ztb, tdu, scu, hli⟩ :=
      State.setCmd_placing_effect { s.listed .obstruct l with pls.sub := .lower, pls.reswingTimer := none, pls.placeTimer := some 0 } l
        s.pls.attemptTarget (s.cmdOf l).clearance
    exact ⟨_, State.exec_reswingTimeout_of_not_live hl hs hp hk hb ha hr hair hone hset, (congrArg Placer.sub pls :),
      (congrArg Placer.reswingTimer pls :), (congrArg Placer.placeTimer pls :), (congrArg Placer.attempt pls :),
      (congrArg Placer.attemptTarget pls :), mode, target, (congrArg Reflexes.pending rxu :), cmd, pc, scu, hli, fhq,
      atp, ztb, tdu, phase⟩

end


section
/-! ## A RESUME (R70, R157) -/

namespace Sys2Proof.Machine

namespace State

variable {s : State}

/-- R157: the stack and the crouch cleared, RE1 set to RE2, and the edge entries gone. -/
def uncrouched (s : State) : State :=
  { s with
    rxu := { s.rxu with
      stack := [], re1 := s.rxu.re2, crouch := .clear, waiting := false, running := none, crouching := .all false,
      pending := s.rxu.pending.filter fun e => e.cause.level },
    scu.tipRaised := false }

/-- R157: the note of the RESUME. -/
def resumedNote : Note := .reflex .resumed .tip none none 0

theorem resumeBody_eq {bottom : Context} (hb : s.pc.body = .recover) (h : s.rxu.stack.getLast? = some bottom) :
    s.resumeBody = (((s.uncrouched.resumeBottom bottom).postNote resumedNote).bodySettled .recover).takePending := by
  unfold resumeBody
  rw [h, hb]
  rfl

/-- R157: the pose in which a RESUME leaves the machine: the body state restored, and the line. -/
def resumedPose (s : State) (b : BodyState) (line : HostLink) : State :=
  { s.uncrouched.pose with pc.body := b, hli := line }

/-- R139, R141: RE1 or the list of a RESUME leaves nothing to take. -/
theorem nothing_to_take (hl : s.rxu.re2 = true → ∀ e ∈ s.rxu.pending, e.cause.level = false) :
    s.uncrouched.rxu.re1 = false ∨ s.uncrouched.rxu.pending = [] := by
  cases live : s.rxu.re2 with
  | false => exact .inl live
  | true => exact .inr (List.filter_eq_nil_iff.mpr fun e he => by simp [hl live e he])

/-- R157, R40: the restored activity noted and settled, where no TIP is due and no entry is to be taken. -/
theorem resumed_settles {u noted : State} {b : BodyState} (hh : s.tipHolds = false)
    (hl : s.rxu.re2 = true → ∀ e ∈ s.rxu.pending, e.cause.level = false) (hne : b ≠ .recover)
    (hu : u.pose = s.resumedPose b noted.hli) :
    ∃ t, ((u.postNote resumedNote).bodySettled .recover).takePending = t ∧
      t.pose = s.resumedPose b (noted.postNote resumedNote).hli ∧ t.ssq = u.ssq ∧ t.pls = u.pls := by
  have line : u.hli = noted.hli := (congrArg State.hli hu :)
  have ssq : (u.postNote resumedNote).ssq = u.ssq := postNote_ssq _ _
  have pls : (u.postNote resumedNote).pls = u.pls := postNote_pls _ _
  have pose : (u.postNote resumedNote).pose = s.resumedPose b (noted.postNote resumedNote).hli := by
    rw [postNote_pose, hu, postNote_hli_congr _ line]
    rfl
  generalize u.postNote resumedNote = v at ssq pls pose
  have body : v.pc.body = b := congrArg (fun s => s.pc.body) pose
  have holds : v.tipHolds = false := (congrArg tipHolds pose).trans hh
  obtain ⟨tpose, tssq, tpls⟩ := tipTest_of_not_holds holds
  rw [pose] at tpose
  have waiting : v.tipTest.rxu.waiting = false := congrArg (fun s => s.rxu.waiting) tpose
  have rxu : v.tipTest.rxu = s.uncrouched.rxu := (congrArg State.rxu tpose :)
  have none : v.tipTest.mayTakePending = false := by
    unfold mayTakePending
    rw [rxu]
    rcases nothing_to_take hl with h | h <;> simp [h]
  refine ⟨v.tipTest, ?_, tpose, tssq.trans ssq, tpls.trans pls⟩
  rw [bodySettled_of_no_rise (by rwa [body]) (.inl waiting), takePending, none]
  rfl

/-- A pose that a RESUME leaves is what the statement says of it. -/
theorem resumed_of_pose {t noted : State} {q : Byte} {b : BodyState}
    (h : t.pose = s.resumedPose b ((noted.postNote (.body .recover b .resume)).postNote resumedNote).hli) :
    resumed s noted (t.answered q .ok (.bytes [])) q b := by
  have rxu := congrArg State.rxu h
  have ssq := congrArg State.ssq h
  have hli := congrArg State.hli h
  refine ⟨(congrArg State.pc h :), (congrArg Reflexes.stack rxu :), (congrArg Reflexes.running rxu :),
    (congrArg Reflexes.crouch rxu :), (congrArg Reflexes.re1 rxu :), (congrArg Reflexes.waiting rxu :),
    (congrArg Reflexes.pending rxu :), (congrArg Strider.cmd ssq :), ?_, (congrArg Strider.verified ssq :),
    (congrArg Strider.odometer ssq :), (congrArg (fun s => s.scu.sway) h :), (congrArg State.atp h :),
    (congrArg State.fhq h :), (congrArg State.ztb h :), (congrArg State.tdu h :), (congrArg State.llc h :)⟩
  exact congrArg (fun line : HostLink => { line with slot := some { seq := q, status := .ok, payload := .bytes [] } })
    (show t.hli = _ from hli)

/-- R157: an accepted RESUME whose bottom context restores a body state. -/
theorem exec_resume_of_pose {q : Byte} {bottom : Context} {noted : State} {b : BodyState} (ready : Ready s)
    (hp : s.pc.protect = false) (hb : s.pc.body = .recover) (hc : s.rxu.crouch = .crouched) (hh : s.tipHolds = false)
    (hl : s.rxu.re2 = true → ∀ e ∈ s.rxu.pending, e.cause.level = false) (hs : s.rxu.stack.getLast? = some bottom)
    (hne : b ≠ .recover)
    (hu : (s.uncrouched.resumeBottom bottom).pose =
      s.resumedPose b (noted.postNote (.body .recover b .resume)).hli) :
    ∃ t, exec (.resume q) s = .next t ∧ resumed s noted t q b ∧ t.ssq = (s.uncrouched.resumeBottom bottom).ssq ∧
      t.pls = (s.uncrouched.resumeBottom bottom).pls := by
  have told : exec (.resume q) s = .next (s.doResume.state.answered q s.doResume.status s.doResume.payload) :=
    congrArg _ (respond_of_ready ready q _)
  have accepted : s.doResume = s.resumeBody.reply .ok := by simp [doResume, hp, hb, hc]
  obtain ⟨t, settled, pose, ssq, pls⟩ := resumed_settles hh hl hne hu
  refine ⟨t.answered q .ok (.bytes []), ?_, resumed_of_pose pose, ssq, pls⟩
  rw [told, accepted, resumeBody_eq hb hs, settled]
  rfl

/-- R5, R157: a body state restored from RECOVER. -/
theorem setBody_resumedPose {u noted : State} {b : BodyState} (hu : u.pose = s.resumedPose .recover noted.hli)
    (h : BodyState.recover.mayBecome b = true) (hb : b.standing = true) (hne : b ≠ .recover) :
    (u.setBody b .resume).pose = s.resumedPose b (noted.postNote (.body .recover b .resume)).hli := by
  have body : u.pc.body = .recover := congrArg (fun s => s.pc.body) hu
  have line : u.hli = noted.hli := (congrArg State.hli hu :)
  rw [setBody_pose .resume (body ▸ h) hb (body ▸ hne), hu, body, postNote_hli_congr _ line]
  rfl

/-- R157: what clears the crouch leaves the body in RECOVER and the line alone. -/
theorem uncrouched_pose (hb : s.pc.body = .recover) : s.uncrouched.pose = s.resumedPose .recover s.hli := by
  unfold resumedPose
  rw [← hb]
  rfl

/-- R70: a WALK context restored as HOLD, or STAND. -/
theorem resumeBottom_walk (hb : s.pc.body = .recover) {leg : Option Leg} {l : Leg} {phase : Phase} (index count : Nat)
    (dir : Direction) (attempts : Nat) (hleg : leg = some l ∨ phase = .pause) :
    let u := s.uncrouched.resumeBottom (.walk leg index phase count dir attempts)
    let held := walkHeld s l index count phase
    u.pose = s.resumedPose held.1 ((strideTold s index count phase).postNote (.body .recover held.1 .resume)).hli ∧
      u.ssq.next = held.2.1 ∧ u.ssq.count = held.2.2 ∧ u.ssq.dir = dir ∧ u.ssq.order = s.ssq.order ∧
      u.ssq.phase = .idle ∧ u.ssq.stepping = none ∧ u.ssq.phaseTimer = none := by
  obtain ⟨pose, next, spent, direction, order, idle, stepping, timer, -⟩ :=
    resumeAsHold_held (s := { s.uncrouched with ssq.count := count, ssq.dir := dir }) hb index .resume hleg
  have told := strideTold_hli_congr (t := { s.uncrouched with ssq.count := count, ssq.dir := dir }) (s := s) rfl rfl index
    count phase
  let held := walkHeld s l index count phase
  exact ⟨pose.trans (congrArg (s.resumedPose held.1) (postNote_hli_congr (.body .recover held.1 .resume) told)), next,
    spent, direction, order, idle, stepping, timer⟩

/-- R70, R63: a RESEAT context resumed in STAND, with the STRIDE note of the strides it had left. -/
def reseatLeft (s : State) (count : Nat) : State :=
  if 0 < count then s.postNote (.stride count s.ssq.odometer) else s

/-- R70, R63: the same once the crouch is cleared, with the count and direction of the context. -/
def reseatTold (s : State) (count : Nat) (dir : Direction) : State :=
  if 0 < count then postStride { s with ssq.count := count, ssq.dir := dir }
  else { s with ssq.count := count, ssq.dir := dir }

/-- R70: what a RESEAT context of a body not UNSETTLED gives. -/
def reseatOver (s : State) (count : Nat) (dir : Direction) : State :=
  setBody { s.reseatTold count dir with ssq.count := 0, ssq.next := none } .stand .resume

@[simp] theorem reseatTold_pls (s : State) (count : Nat) (dir : Direction) : (s.reseatTold count dir).pls = s.pls := by
  unfold reseatTold
  split
  · exact postNote_pls _ _
  · rfl

@[simp] theorem reseatOver_pls (s : State) (count : Nat) (dir : Direction) : (s.reseatOver count dir).pls = s.pls := by
  simp [reseatOver]

theorem reseatOver_ssq (s : State) (count : Nat) (dir : Direction) :
    (s.reseatOver count dir).ssq = { (s.reseatTold count dir).ssq with count := 0, next := none } := setBody_ssq ..

theorem reseatTold_pose {u : State} (hu : u.pose = s.resumedPose .recover s.hli) (count : Nat) (dir : Direction) :
    (u.reseatTold count dir).pose = s.resumedPose .recover (s.reseatLeft count).hli := by
  unfold reseatTold
  unfold reseatLeft
  split
  · have line : u.hli = s.hli := (congrArg State.hli hu :)
    have odometer : u.ssq.odometer = s.ssq.odometer := congrArg (fun s => s.ssq.odometer) hu
    refine (postNote_pose _ _).trans ?_
    rw [postNote_hli_congr (s := { u with ssq.count := count, ssq.dir := dir }) (t := s) _ line,
      show pose { u with ssq.count := count, ssq.dir := dir } = _ from hu]
    show _ = s.resumedPose .recover (s.postNote (.stride count s.ssq.odometer)).hli
    rw [← odometer]
    rfl
  · exact hu

end State
end Sys2Proof.Machine

open Sys2Proof Sys2Proof.Machine

/-- Settles O54: the tests of R157 in their order, then each kind of bottom context. -/
theorem resumeRestoresTheBottomContext : Obligations.ResumeRestoresTheBottomContext := by
  intro s q ready
  have told : exec (.resume q) s = .next (s.doResume.state.answered q s.doResume.status s.doResume.payload) :=
    congrArg _ (State.respond_of_ready ready q _)
  refine ⟨fun hp => ?_, fun hp hb => ?_, fun hp hr hl hc => ?_, fun hp hb hc hh hl => ⟨?_, ?_, ?_⟩⟩
  · simp [told, State.doResume, hp, State.reply, Payload.empty]
  · rcases hb with hb | hb <;> simp [told, State.doResume, hp, hb, State.reply, Payload.empty]
  · have refused : s.doResume = s.reply .state := by
      unfold State.doResume
      rw [hp]
      cases hb : s.pc.body <;> cases hk : s.rxu.crouch <;> simp_all
    simp [told, refused, State.reply, Payload.empty]
  · rintro bottom body hs (⟨rfl, rfl⟩ | ⟨rfl, rfl⟩ | ⟨n, k, d, rfl, rfl⟩)
    · obtain ⟨t, next, left, -⟩ := State.exec_resume_of_pose ready hp hb hc hh hl hs (by decide)
        (State.setBody_resumedPose (State.uncrouched_pose hb) rfl rfl (by decide))
      exact ⟨t, next, left, nofun⟩
    · obtain ⟨t, next, left, -⟩ := State.exec_resume_of_pose ready hp hb hc hh hl hs (by decide)
        (State.setBody_resumedPose (State.uncrouched_pose hb) rfl rfl (by decide))
      exact ⟨t, next, left, nofun⟩
    · obtain ⟨t, next, left, ssq, -⟩ := State.exec_resume_of_pose ready hp hb hc hh hl hs (by decide)
        (State.setBody_resumedPose (u := { s.uncrouched with ssq.next := n, ssq.count := k, ssq.dir := d })
          (State.uncrouched_pose hb) rfl rfl (by decide))
      have held := ssq.trans (State.setBody_ssq ..)
      refine ⟨t, next, left, fun n' k' d' same => ?_⟩
      cases same
      exact ⟨(congrArg Strider.next held :), (congrArg Strider.count held :), (congrArg Strider.dir held :)⟩
  · intro leg l index phase count dir attempts hs hleg
    obtain ⟨pose, next, spent, direction, order, idle, stepping, timer⟩ :=
      State.resumeBottom_walk hb index count dir attempts hleg
    obtain ⟨t, told, left, ssq, -⟩ :=
      State.exec_resume_of_pose ready hp hb hc hh hl hs (State.walkHeld_standing s l index count phase) pose
    refine ⟨t, told, left, ?_⟩
    rw [ssq]
    exact ⟨next, spent, direction, order, idle, stepping, timer⟩
  · intro origin pass count dir next attempts hs
    by_cases ho : origin = .unsettled
    · subst ho
      obtain ⟨t, next, left, -, pls⟩ := State.exec_resume_of_pose ready hp hb hc hh hl hs (by decide)
        (State.setBody_resumedPose (State.uncrouched_pose hb) rfl rfl (by decide))
      exact ⟨t, next, pls.trans (State.setBody_pls ..), fun _ => left, fun other => absurd rfl other⟩
    · have restores : s.uncrouched.resumeBottom (.reseat origin pass count dir next attempts) =
          s.uncrouched.reseatOver count dir := by
        cases origin with
        | unsettled => exact absurd rfl ho
        | stand => rfl
        | hold => rfl
      have pose := State.setBody_resumedPose (s := s) (b := .stand)
        (u := { s.uncrouched.reseatTold count dir with ssq.count := 0, ssq.next := none }) (noted := s.reseatLeft count)
        (State.reseatTold_pose (State.uncrouched_pose hb) count dir) rfl rfl (by decide)
      obtain ⟨t, told, left, ssq, pls⟩ := State.exec_resume_of_pose ready hp hb hc hh hl hs (by decide)
        ((congrArg State.pose restores).trans pose)
      rw [restores] at ssq pls
      rw [State.reseatOver_ssq] at ssq
      exact ⟨t, told, pls.trans (State.reseatOver_pls ..), fun other => absurd other ho,
        fun _ => ⟨left, (congrArg Strider.count ssq :), (congrArg Strider.next ssq :)⟩⟩

end


section
/-! ## What the taking of a report keeps

What the report of a leg says of its link, and the conditions it raises, have to survive whatever the report sets off: a
TIP, a reflex taken or ended, a phase boundary. One relation between two states of an event says what does: what the
link has counted and heard; the OBSTRUCT mark and the overload condition, which nothing else sets (R168, R169); a
standing body; a Reflex Unit at rest; and one watched leg on the ground, with the records of its window. Every shared
operation keeps the relation. -/

namespace Sys2Proof.Machine

/-- What the Limb Link Controller has counted and heard on a link: all but the exchange, the calibration and the two conditions. -/
def Link.heard (k : Link) : Link := { k.lasting with calib := .idle, calibTimer := none }

/-- The records of a leg's window, without the steady mark. -/
def SlipLeg.window (k : SlipLeg) : SlipLeg := { k with steady := false, steadyTimer := none }

/-- The stage PLACE of a leg. -/
def Running.places (r : Running) (l : Leg) : Prop := r.stage = .place ∧ r.leg = some l

/-- The parts of the state that the relation reads. -/
structure Watched where
  links : PerLeg Link
  cmd : PerLeg LegCmd
  verified : PerLeg Bool
  stance : PerLeg Bool
  slips : Slip
  pending : List Pending
  stack : List Context
  running : Option Running
  crouch : CrouchMark
  re1 : Bool
  waiting : Bool
  standing : Bool
  protect : Bool
  placement : Option Leg
  phase : Phase
  awaitFirst : PerLeg Bool

def State.watched (s : State) : Watched :=
  { links := s.llc, cmd := s.ssq.cmd, verified := s.ssq.verified, stance := s.scu.stance, slips := s.slm,
    pending := s.rxu.pending, stack := s.rxu.stack, running := s.rxu.running, crouch := s.rxu.crouch, re1 := s.rxu.re1,
    waiting := s.rxu.waiting, standing := s.pc.body.standing, protect := s.pc.protect, placement := s.pls.placement,
    phase := s.ssq.phase, awaitFirst := s.pc.awaitFirst }

namespace Watched

/-- R138: a listed OVERLOAD has its condition. -/
def OverloadSound (a : Watched) (k : Leg) : Prop := ⟨.overload, k⟩ ∈ a.pending → (a.links.get k).overload = true

/-- R84, R154: a CROUCH goes on, and what it interrupted has stood aside. -/
def Aside (a : Watched) : Prop :=
  a.crouch ≠ .clear ∧ a.running = some State.crouchReflex ∧ a.phase = .idle ∧ a.placement = none

/-- R140, R154: no reflex is live, and no rise waits; a CROUCH alone may go on. -/
def Dormant (a : Watched) : Prop := a.re1 = false ∧ a.waiting = false ∧ (a.running = none ∨ a.Aside)

/-- R142, R158: the contexts that the stack holds and those that may yet be pushed while reflexes are live. -/
def depth (a : Watched) : Nat :=
  a.stack.length + (if a.crouch = .clear then 1 else 0) + if a.crouch = .clear ∧ a.re1 = true then 1 else 0

/-- A leg stands, in the stance set exactly where its contact is verified, and nothing under way would lift it or place it
or hold it. -/
structure Grounded (a : Watched) (l : Leg) : Prop where
  standing : a.standing = true
  mode : (a.cmd.get l).mode = .stance
  link : (a.links.get l).link = .ok
  admitted : (a.links.get l).withdrawn = false
  tied : a.stance.get l = a.verified.get l
  free : a.protect = false
  settled : a.waiting = false
  depth : a.depth ≤ 2
  running : ∀ r, a.running = some r → ¬ r.places l
  stack : ∀ r, .recover r ∈ a.stack → ¬ r.places l
  placement : a.placement ≠ some l

/-- The link of a leg as the report left it; no condition has come. -/
structure LinkKept (k j : Link) : Prop where
  heard : j.heard = k.heard
  obstruct : k.obstruct = false → j.obstruct = false
  overload : k.overload = false → j.overload = false

/-- A leg that stood stands, with the records of its window. -/
structure LegKept (d : Bool) (l : Leg) (a b : Watched) : Prop where
  grounded : b.Grounded l
  verified : b.verified.get l = a.verified.get l
  window : (b.slips.legs.get l).window = (a.slips.legs.get l).window
  store : b.slips.store = a.slips.store
  slip : d = true → a.Dormant → ⟨.slip, l⟩ ∈ a.pending → ⟨.slip, l⟩ ∈ b.pending

/-- What an operation keeps; `w` is the leg that is watched, and `d` says whether the rest of the Reflex Unit is. -/
structure Kept (w : Option Leg) (d : Bool) (a b : Watched) : Prop where
  links : ∀ k, LinkKept (a.links.get k) (b.links.get k)
  sound : ∀ k, a.OverloadSound k → b.OverloadSound k
  standing : a.standing = true → b.standing = true
  modes : a.standing = true → ∀ k, (a.cmd.get k).mode ≠ .limp → (b.cmd.get k).mode ≠ .limp
  first : a.standing = true → ∀ k, a.awaitFirst.get k = false → b.awaitFirst.get k = false
  dormant : d = true → a.Dormant → b.Dormant ∧ ∀ e ∈ a.pending, e.cause.level = false → e ∈ b.pending
  leg : ∀ l, w = some l → a.Grounded l → LegKept d l a b

variable {w : Option Leg} {d : Bool} {a b c : Watched}

theorem LinkKept.refl (k : Link) : LinkKept k k := ⟨rfl, id, id⟩

theorem LinkKept.trans {i j k : Link} (h₁ : LinkKept i j) (h₂ : LinkKept j k) : LinkKept i k :=
  ⟨h₂.heard.trans h₁.heard, h₂.obstruct ∘ h₁.obstruct, h₂.overload ∘ h₁.overload⟩

theorem LinkKept.link {j k : Link} (h : LinkKept j k) : k.link = j.link := (congrArg Link.link h.heard :)

theorem LinkKept.withdrawn {j k : Link} (h : LinkKept j k) : k.withdrawn = j.withdrawn := (congrArg Link.withdrawn h.heard :)

theorem Kept.refl (w : Option Leg) (d : Bool) (a : Watched) : Kept w d a a where
  links _ := .refl _
  sound _ := id
  standing := id
  modes _ _ := id
  first _ _ := id
  dormant _ h := ⟨h, fun _ he _ => he⟩
  leg _ _ h := ⟨h, rfl, rfl, rfl, fun _ _ => id⟩

theorem Kept.trans (h₁ : Kept w d a b) (h₂ : Kept w d b c) : Kept w d a c where
  links k := (h₁.links k).trans (h₂.links k)
  sound k := h₂.sound k ∘ h₁.sound k
  standing := h₂.standing ∘ h₁.standing
  modes h k := h₂.modes (h₁.standing h) k ∘ h₁.modes h k
  first h k := h₂.first (h₁.standing h) k ∘ h₁.first h k
  dormant hd h := by
    obtain ⟨hb, listed⟩ := h₁.dormant hd h
    obtain ⟨hc, listed'⟩ := h₂.dormant hd hb
    exact ⟨hc, fun e he hl => listed' e (listed e he hl) hl⟩
  leg l hw h := by
    obtain ⟨hb, verified, window, store, slip⟩ := h₁.leg l hw h
    obtain ⟨hc, verified', window', store', slip'⟩ := h₂.leg l hw hb
    exact ⟨hc, verified'.trans verified, window'.trans window, store'.trans store,
      fun hd ha hs => slip' hd (h₁.dormant hd ha).1 (slip hd ha hs)⟩

end Watched
end Sys2Proof.Machine
end


section
/-! ## What the shared operations keep -/

namespace Sys2Proof.Machine

namespace State

open Watched (Kept LinkKept LegKept Grounded Dormant OverloadSound)

variable {s t u : State} {w : Option Leg} {d : Bool}

/-- What an event keeps from one state to another. -/
abbrev Keeps (w : Option Leg) (d : Bool) (s t : State) : Prop := Kept w d s.watched t.watched

theorem Keeps.trans (h₁ : Keeps w d s t) (h₂ : Keeps w d t u) : Keeps w d s u := Kept.trans h₁ h₂

/-- An operation that writes nothing the relation reads. -/
theorem Keeps.frame (e : t.watched = s.watched) : Keeps w d s t := by
  unfold Keeps
  rw [e]
  exact .refl ..

theorem Keeps.ite {c : Prop} [Decidable c] (ht : c → Keeps w d s t) (hu : ¬ c → Keeps w d s u) :
    Keeps w d s (if c then t else u) := by
  split
  · exact ht ‹_›
  · exact hu ‹_›

theorem foldl_kept {f : State → Leg → State} (hf : ∀ s l, Keeps w d s (f s l)) (legs : List Leg) (s : State) :
    Keeps w d s (legs.foldl f s) := by
  induction legs generalizing s with
  | nil => exact .refl ..
  | cons l rest ih => exact (hf s l).trans (ih _)

theorem Keeps.after (h : Keeps w d t u) (e : t.watched = s.watched) : Keeps w d s u := by
  unfold Keeps at h ⊢
  rwa [← e]

/-- Where no leg is watched, the flags, the stance set and the windows are free. -/
theorem Keeps.unwatched {verified stance : PerLeg Bool} {slips : Slip}
    (e : t.watched = { s.watched with verified := verified, stance := stance, slips := slips }) :
    Keeps none d s t := by
  unfold Keeps
  rw [e]
  exact ⟨fun _ => .refl _, fun _ => id, id, fun _ _ => id, fun _ _ => id, fun _ h => ⟨h, fun _ he _ => he⟩, nofun⟩

/-- Where neither a leg nor the Reflex Unit is watched, no more than the links, the modes, the list and the posture. -/
theorem Keeps.loose (links : t.llc = s.llc) (cmd : t.ssq.cmd = s.ssq.cmd) (pending : t.rxu.pending = s.rxu.pending)
    (pc : t.pc = s.pc) : Keeps none false s t where
  links k := by
    simp only [watched, links]
    exact .refl _
  sound k := by
    simp only [OverloadSound, watched, links, pending]
    exact id
  standing h := by simpa only [watched, pc] using h
  first _ _ h := by simpa only [watched, pc] using h
  modes _ k := by
    simp only [watched, cmd]
    exact id
  dormant := nofun
  leg := nofun

theorem Keeps.of_not_grounded (h : Keeps none d s t) (hn : ∀ l, w = some l → ¬ s.watched.Grounded l) : Keeps w d s t :=
  { h with leg := fun l hw hg => absurd hg (hn l hw) }

theorem Keeps.of_not_dormant (h : Keeps w false s t) (hn : ¬ s.watched.Dormant) : Keeps w d s t where
  links := h.links
  sound := h.sound
  standing := h.standing
  modes := h.modes
  first := h.first
  dormant _ hd := absurd hd hn
  leg l hw hg := by
    obtain ⟨grounded, verified, window, store, -⟩ := h.leg l hw hg
    exact ⟨grounded, verified, window, store, fun _ hd => absurd hd hn⟩

/-- What is kept where no leg is watched is kept but for a watched leg on the ground. -/
theorem Keeps.of_grounded (h : Keeps none d s t) (hg : ∀ l, w = some l → s.watched.Grounded l → Keeps w d s t) :
    Keeps w d s t :=
  { h with leg := fun l hw ground => (hg l hw ground).leg l hw ground }

/-- R140: where a rise waits, neither a leg nor the Reflex Unit is watched. -/
theorem Keeps.of_waiting (h : Keeps none false s t) (hw : s.rxu.waiting = true) : Keeps w d s t := by
  refine (h.of_not_grounded fun l _ hg => ?_).of_not_dormant fun hd => ?_
  · cases hw.symm.trans hg.settled
  · cases hw.symm.trans hd.2.1

/-- A body that stands still stands. -/
theorem Keeps.body {b : Bool} (e : t.watched = { s.watched with standing := b })
    (hb : s.pc.body.standing = true → b = true) : Keeps w d s t := by
  unfold Keeps
  rw [e]
  refine ⟨fun _ => .refl _, fun _ => id, hb, fun _ _ => id, fun _ _ => id, fun _ h => ⟨h, fun _ he _ => he⟩, fun l _ h => ?_⟩
  exact ⟨{ h with standing := hb h.standing }, rfl, rfl, rfl, fun _ _ => id⟩

/-- The placement ends; another leg's may begin where no reflex stands in its place. -/
theorem Keeps.place {placement : Option Leg} (e : t.watched = { s.watched with placement := placement })
    (hq : placement = none ∨ (d = true → s.rxu.running = none))
    (hp : ∀ l, w = some l → s.watched.Grounded l → placement ≠ some l) : Keeps w d s t := by
  unfold Keeps
  rw [e]
  refine ⟨fun _ => .refl _, fun _ => id, id, fun _ _ => id, fun _ _ => id, fun hd ⟨live, waits, rest⟩ => ⟨⟨live, waits, ?_⟩, fun _ he _ => he⟩,
    fun l hw h => ⟨{ h with placement := hp l hw h }, rfl, rfl, rfl, fun _ _ => id⟩⟩
  rcases rest with none | ⟨crouch, running, phase, _⟩
  · exact .inl none
  · rcases hq with none | none
    · exact .inr ⟨crouch, running, phase, none⟩
    · exact .inl (none hd)

/-- The phase ends; another may begin where no reflex stands in its place. -/
theorem Keeps.phase {phase : Phase} (e : t.watched = { s.watched with phase := phase })
    (hq : phase = .idle ∨ (d = true → s.rxu.running = none)) : Keeps w d s t := by
  unfold Keeps
  rw [e]
  refine ⟨fun _ => .refl _, fun _ => id, id, fun _ _ => id, fun _ _ => id, fun hd ⟨live, waits, rest⟩ => ⟨⟨live, waits, ?_⟩, fun _ he _ => he⟩,
    fun l hw h => ⟨{ h with }, rfl, rfl, rfl, fun _ _ => id⟩⟩
  rcases rest with none | ⟨crouch, running, _, placement⟩
  · exact .inl none
  · rcases hq with idle | none
    · exact .inr ⟨crouch, running, idle, placement⟩
    · exact .inl (none hd)

/-! ### Notes and the body state -/

theorem watched_of_blocks (pc : t.pc = s.pc) (scu : t.scu = s.scu) (ssq : t.ssq = s.ssq) (pls : t.pls = s.pls)
    (slm : t.slm = s.slm) (rxu : t.rxu = s.rxu) (llc : t.llc = s.llc) : t.watched = s.watched := by
  simp only [watched, pc, scu, ssq, pls, slm, rxu, llc]

@[simp] theorem postNote_watched (s : State) (n : Note) : (s.postNote n).watched = s.watched :=
  watched_of_blocks (by simp) (by simp) (by simp) (by simp) (by simp) (by simp) (by simp)

@[simp] theorem postFault_watched (s : State) (c : FaultCode) (l : Option Leg) : (s.postFault c l).watched = s.watched :=
  postNote_watched _ _

@[simp] theorem postStride_watched (s : State) : s.postStride.watched = s.watched := postNote_watched _ _

@[simp] theorem zoneLookup_watched (s : State) (r : ZoneReason) : (s.zoneLookup r).watched = s.watched := by
  rw [zoneLookup_eq]
  dsimp only
  split
  · rfl
  · exact postNote_watched _ _

/-- R5: into a state in which a body stands. -/
theorem setBody_kept (s : State) {b : BodyState} (r : BodyReason) (hb : b.standing = true) : Keeps w d s (s.setBody b r) := by
  have changed : (s.setBody b r).watched = s.watched ∨ (s.setBody b r).watched = { s.watched with standing := true } := by
    unfold setBody
    simp only [hb, if_true]
    split_ifs <;> simp [watched, hb]
  rcases changed with e | e
  · exact .frame e
  · exact .body e fun _ => rfl

/-! ### Leg commands -/

/-- A command relates two states as its four writes do. -/
theorem setCmd_relates {R : State → State → Prop} (refl : ∀ s, R s s) (trans : ∀ {s t u}, R s t → R t u → R s u)
    {l : Leg} {m : LegMode} (hcmd : ∀ s a, R s { s with ssq.cmd := s.ssq.cmd.set l a })
    (hsteady : ∀ s, R s (s.unsteady l)) (hmode : ∀ s, R s (s.modeChanged l m)) (hlink : ∀ s, R s (s.handToLink l))
    (s : State) (p : Point) (c : Int) : R s (s.setCmd l m p c) := by
  unfold setCmd
  dsimp only
  split_ifs
  · exact refl s
  · exact trans (hcmd s _) (hlink _)
  · exact trans (hcmd s _) (trans (hsteady _) (hlink _))
  · exact trans (hcmd s _) (trans (hmode _) (hlink _))
  · exact trans (hcmd s _) (trans (hsteady _) (trans (hmode _) (hlink _)))

/-- The links and the listed OVERLOADs, from one state to another. -/
def Sounds (s t : State) : Prop :=
  ∀ k, LinkKept (s.link k) (t.link k) ∧ (s.watched.OverloadSound k → t.watched.OverloadSound k)

theorem Sounds.refl (s : State) : Sounds s s := fun _ => ⟨.refl _, id⟩

theorem Sounds.trans (h₁ : Sounds s t) (h₂ : Sounds t u) : Sounds s u := fun k =>
  ⟨(h₁ k).1.trans (h₂ k).1, (h₂ k).2 ∘ (h₁ k).2⟩

/-- A change of one link, the list as it was. -/
theorem Sounds.modify (l : Leg) {f : Link → Link} (hf : ∀ k, LinkKept k (f k)) (ho : ∀ k, (f k).overload = k.overload) :
    Sounds s { s with llc := s.llc.modify l f } := fun k => by
  unfold OverloadSound
  simp only [link, watched, PerLeg.get_modify]
  split
  · exact ⟨hf _, fun h he => (ho _).trans (h he)⟩
  · exact ⟨.refl _, id⟩

theorem Sounds.of_eq (hl : t.llc = s.llc) (hp : t.rxu.pending = s.rxu.pending) : Sounds s t := fun k => by
  unfold OverloadSound
  simp only [link, watched, hl, hp]
  exact ⟨.refl _, id⟩

theorem handToLink_sounds (s : State) (l : Leg) : Sounds s (s.handToLink l) := by
  unfold handToLink
  split
  · exact .modify l (fun _ => ⟨rfl, id, id⟩) fun _ => rfl
  · exact .modify l (fun _ => ⟨rfl, id, id⟩) fun _ => rfl

/-- R169, R139: the condition gone, and told. -/
theorem endOverload_sounds (s : State) (l : Leg) : Sounds s (s.endOverload l) := by
  unfold endOverload
  split
  · intro k
    unfold OverloadSound
    simp only [tellGone, link, watched, PerLeg.get_modify]
    by_cases hk : k = l
    · subst hk
      rw [if_pos rfl]
      exact ⟨⟨rfl, id, fun _ => rfl⟩, by simp⟩
    · rw [if_neg hk]
      exact ⟨.refl _, fun h he => h (List.mem_of_mem_filter he)⟩
  · exact .refl s

theorem modeChanged_sounds (s : State) (l : Leg) (m : LegMode) : Sounds s (s.modeChanged l m) := by
  have unmarked : Sounds s { s with llc := s.llc.modify l fun k => { k with obstruct := false } } :=
    .modify l (fun _ => ⟨rfl, fun _ => rfl, id⟩) fun _ => rfl
  have lifted (q : State) : Sounds q (q.setVerified l false) := .of_eq rfl rfl
  unfold modeChanged
  cases m with
  | limp => exact unmarked.trans ((lifted _).trans (endOverload_sounds _ l))
  | swing => exact unmarked.trans (lifted _)
  | _ => exact unmarked

theorem setCmd_sounds (s : State) (l : Leg) (m : LegMode) (p : Point) (c : Int) : Sounds s (s.setCmd l m p c) :=
  setCmd_relates Sounds.refl Sounds.trans (fun _ _ => .of_eq rfl rfl) (fun _ => .of_eq rfl rfl)
    (fun s => modeChanged_sounds s l m) (fun s => handToLink_sounds s l) s p c

theorem setCmd_window (s : State) (l k : Leg) (m : LegMode) (p : Point) (c : Int) :
    ((s.setCmd l m p c).slipOf k).window = (s.slipOf k).window :=
  setCmd_keeps (fun s => (s.slipOf k).window) (fun _ _ => rfl)
    (fun s => by simp only [unsteady, slipOf, PerLeg.get_modify]; split <;> rfl)
    (fun s => by simp [slipOf]) (fun s => by simp [slipOf]) s p c

/-- What commands leave of a state: the legs hold on to their power, and a watched leg on the ground stays there. -/
structure Commanded (w : Option Leg) (s t : State) : Prop where
  sounds : Sounds s t
  pc : t.pc = s.pc
  scu : t.scu = s.scu
  pls : t.pls = s.pls
  rxu : t.rxu = s.rxu
  phase : t.ssq.phase = s.ssq.phase
  store : t.slm.store = s.slm.store
  modes : ∀ k, s.modeOf k ≠ .limp → t.modeOf k ≠ .limp
  leg : ∀ l, w = some l → s.modeOf l = .stance →
    t.modeOf l = .stance ∧ t.verifiedOf l = s.verifiedOf l ∧ (t.slipOf l).window = (s.slipOf l).window

theorem Commanded.refl (w : Option Leg) (s : State) : Commanded w s s :=
  ⟨.refl s, rfl, rfl, rfl, rfl, rfl, rfl, fun _ => id, fun _ _ h => ⟨h, rfl, rfl⟩⟩

theorem Commanded.trans (h₁ : Commanded w s t) (h₂ : Commanded w t u) : Commanded w s u where
  sounds := h₁.sounds.trans h₂.sounds
  pc := h₂.pc.trans h₁.pc
  scu := h₂.scu.trans h₁.scu
  pls := h₂.pls.trans h₁.pls
  rxu := h₂.rxu.trans h₁.rxu
  phase := h₂.phase.trans h₁.phase
  store := h₂.store.trans h₁.store
  modes k := h₂.modes k ∘ h₁.modes k
  leg l hw h := by
    obtain ⟨mode, verified, window⟩ := h₁.leg l hw h
    obtain ⟨mode', verified', window'⟩ := h₂.leg l hw mode
    exact ⟨mode', verified'.trans verified, window'.trans window⟩

/-- R45: a command that leaves its leg its power, and a watched leg on the ground. -/
theorem setCmd_commanded {m : LegMode} (hm : m ≠ .limp) (l : Leg) (p : Point) (c : Int)
    (hw : w = some l → s.modeOf l = .stance → m = .stance) : Commanded w s (s.setCmd l m p c) where
  sounds := setCmd_sounds s l m p c
  pc := setCmd_pc ..
  scu := setCmd_scu ..
  pls := setCmd_pls ..
  rxu := setCmd_rxu hm ..
  phase := (congrArg Strider.phase (setCmd_uncommanded s l m p c) :)
  store := setCmd_keeps (fun s => s.slm.store) (fun _ _ => rfl) (fun _ => rfl) (fun _ => by simp) (fun _ => by simp) s p c
  modes k h := by
    by_cases hk : k = l
    · subst hk
      simpa [modeOf] using hm
    · rwa [modeOf, setCmd_cmdOf_of_ne _ _ _ _ hk]
  leg k hk h := by
    refine ⟨?_, ?_, setCmd_window ..⟩
    · by_cases hl : k = l
      · subst hl
        simpa [modeOf] using hw hk h
      · rwa [modeOf, setCmd_cmdOf_of_ne _ _ _ _ hl]
    · by_cases hl : k = l
      · subst hl
        have ground := hw hk h
        subst ground
        exact congrArg (PerLeg.get · k) (setCmd_verified (by decide) (by decide) s k p c)
      · exact setCmd_verifiedOf_of_ne _ _ _ _ hl

theorem setTarget_commanded (l : Leg) (p : Point) (hl : s.modeOf l = .stance) : Commanded w s (s.setTarget l p) := by
  unfold setTarget
  rw [hl]
  exact setCmd_commanded (by decide) _ _ _ fun _ _ => rfl

/-- R46: a command of a leg that is in the air, or of another leg than the watched one. -/
theorem airCmd_commanded {m : LegMode} (hm : m ≠ .limp) (l : Leg) (p : Point) (c : Int)
    (hw : w = some l → s.modeOf l ≠ .stance) : Commanded w s (s.airCmd l m p c) := by
  rcases airCmd_cases s l m p c with ⟨-, e⟩ | ⟨-, e⟩ <;> rw [e]
  · exact .refl ..
  · exact setCmd_commanded hm _ _ _ fun hk h => absurd h (hw hk)

theorem foldl_commanded {f : State → Leg → State} (hf : ∀ s l, Commanded w s (f s l)) (legs : List Leg) (s : State) :
    Commanded w s (legs.foldl f s) := by
  induction legs generalizing s with
  | nil => exact .refl ..
  | cons l rest ih => exact (hf s l).trans (ih _)

theorem moveStance_commanded (s : State) (f : Point → Point) : Commanded w s (s.moveStance f) := by
  refine foldl_commanded (fun s l => ?_) _ s
  split
  · exact setTarget_commanded _ _ ‹_›
  · exact .refl ..

theorem crouchLeg_commanded (s : State) (l : Leg) : Commanded w s (s.crouchLeg l) := by
  unfold crouchLeg
  dsimp only
  split
  · exact setTarget_commanded _ _ ‹_›
  · rename_i air
    exact airCmd_commanded (by decide) _ _ _ fun _ => by simp [air]
  · rename_i air
    exact airCmd_commanded (by decide) _ _ _ fun _ => by simp [air]
  · exact .refl ..

theorem crouchAll_commanded (s : State) : Commanded w s s.crouchAll := foldl_commanded crouchLeg_commanded _ s

/-- What the state reads once commands are given. -/
theorem Commanded.watched (h : Commanded w s t) :
    t.watched = { s.watched with links := t.llc, cmd := t.ssq.cmd, verified := t.ssq.verified, slips := t.slm } := by
  simp only [State.watched, h.pc, h.scu, h.pls, h.rxu, h.phase]

theorem Commanded.keeps (h : Commanded w s t) : Keeps w d s t := by
  obtain ⟨sounds, pc, scu, pls, rxu, phase, store, modes, leg⟩ := h
  have same := Commanded.watched ⟨sounds, pc, scu, pls, rxu, phase, store, modes, leg⟩
  refine ⟨fun k => (sounds k).1, fun k => (sounds k).2, ?_, fun _ => modes, ?_, fun _ dormant => ?_, fun l hw ground => ?_⟩
  · rw [same]
    exact id
  · rw [same]
    exact fun _ _ => id
  · rw [same]
    exact ⟨dormant, fun _ he _ => he⟩
  · obtain ⟨mode, verified, window⟩ := leg l hw ground.mode
    have kept := (sounds l).1
    refine ⟨?_, verified, window, store, fun _ _ hs => ?_⟩
    · rw [same]
      exact { ground with
        mode := mode, link := kept.link.trans ground.link, admitted := kept.withdrawn.trans ground.admitted,
        tied := ground.tied.trans verified.symm }
    · rw [same]
      exact hs

end State
end Sys2Proof.Machine
end


section
/-! ## What TIP, the protect latch, and a change of the stance set keep -/

namespace Sys2Proof.Machine

namespace State

open Watched (Kept LinkKept LegKept Grounded Dormant Aside OverloadSound)

variable {s t u : State} {w : Option Leg} {d : Bool}

/-! ### The stance set derived again -/

/-- R133, R139: a leg's leaving takes its SLIP entry alone from the list. -/
theorem slmLeave_listed {l : Leg} {e : Pending} (he : e ∈ s.rxu.pending) (hne : e ≠ ⟨.slip, l⟩) :
    e ∈ (s.slmLeave l).rxu.pending := by
  unfold slmLeave endSlip
  split
  · exact List.mem_filter.mpr ⟨he, by simpa using hne⟩
  · exact he

theorem slmLeave_slipOf_of_ne {k l : Leg} (h : k ≠ l) : (s.slmLeave l).slipOf k = s.slipOf k := by
  unfold slmLeave endSlip
  split <;> simp [slipOf, tellGone, emptyWindow, PerLeg.get_modify, h]

theorem slmLeave_store (s : State) (l : Leg) : (s.slmLeave l).slm.store = s.slm.store := by
  unfold slmLeave endSlip
  split <;> rfl

theorem slmLeaves_listed {e : Pending} {legs : List Leg} (he : e ∈ s.rxu.pending) (hne : ∀ l ∈ legs, e ≠ ⟨.slip, l⟩) :
    e ∈ (legs.foldl slmLeave s).rxu.pending := by
  induction legs generalizing s with
  | nil => exact he
  | cons l rest ih =>
    exact ih (slmLeave_listed he (hne l List.mem_cons_self)) fun k hk => hne k (List.mem_cons_of_mem _ hk)

theorem slmLeaves_slipOf {k : Leg} {legs : List Leg} (h : k ∉ legs) : (legs.foldl slmLeave s).slipOf k = s.slipOf k := by
  induction legs generalizing s with
  | nil => rfl
  | cons l rest ih =>
    obtain ⟨hl, hrest⟩ := not_or.mp (fun hk => h (List.mem_cons.mpr hk))
    exact (ih hrest).trans (slmLeave_slipOf_of_ne hl)

/-- R27: a leg on the ground is of the derived set exactly where its contact is verified. -/
theorem stanceDerived_get_of_grounded {l : Leg} (h : s.watched.Grounded l) : s.stanceDerived.get l = s.verifiedOf l := by
  have mode : s.modeOf l = .stance := h.mode
  have linked : s.linkOk l = true := by
    have ok : (s.link l).link = .ok := h.link
    simp [linkOk, ok]
  have admits : s.admitted l = true := by
    have kept : (s.link l).withdrawn = false := h.admitted
    simp [admitted, kept]
  simp [stanceDerived, mode, linked, admits]

theorem restanced_watched (s : State) :
    s.restanced.watched =
      { s.watched with stance := s.stanceDerived, slips := s.restanced.slm, pending := s.restanced.rxu.pending } := by
  have unlisted := restanced_unlisted s
  have stack := (congrArg Reflexes.stack unlisted :)
  have running := (congrArg Reflexes.running unlisted :)
  have crouch := (congrArg Reflexes.crouch unlisted :)
  have live := (congrArg Reflexes.re1 unlisted :)
  have waiting := (congrArg Reflexes.waiting unlisted :)
  simp only [Reflexes.unlisted] at stack running crouch live waiting
  simp only [watched, restanced_stance, restanced_ssq, restanced_llc, restanced_pc, restanced_pls, stack, running, crouch,
    live, waiting]

theorem restanced_kept (s : State) : Keeps w d s s.restanced := by
  have rest := restanced_watched s
  refine ⟨?_, fun k => ?_, ?_, ?_, ?_, fun _ dormant => ⟨?_, fun e he level => ?_⟩, fun l hw ground => ?_⟩
  · rw [rest]
    exact fun _ => .refl _
  · rw [rest]
    exact fun sound he => sound ((restanced_sublist s).subset he)
  · rw [rest]
    exact id
  · rw [rest]
    exact fun _ _ => id
  · rw [rest]
    exact fun _ _ => id
  · rw [rest]
    exact dormant
  · refine slmLeaves_listed (s := { s with scu.stance := s.stanceDerived }) he fun l _ hl => ?_
    subst hl
    cases level
  · have stays : l ∉ Leg.all.filter fun l => s.inStance l && !s.stanceDerived.get l := by
      have tied : s.inStance l = s.verifiedOf l := ground.tied
      rw [List.mem_filter, stanceDerived_get_of_grounded ground, tied]
      simp
    refine ⟨?_, ?_, ?_, ?_, fun _ _ hs => ?_⟩
    · rw [rest]
      exact { ground with tied := stanceDerived_get_of_grounded ground }
    · rw [rest]
    · exact congrArg SlipLeg.window (slmLeaves_slipOf (s := { s with scu.stance := s.stanceDerived }) stays)
    · exact foldl_keeps (fun s => s.slm.store) slmLeave_store _ _
    · refine slmLeaves_listed (s := { s with scu.stance := s.stanceDerived }) hs fun k hk he => ?_
      cases he
      exact stays hk

/-! ### The TIP test -/

theorem tipTestWith_kept {raise : State → State} (hr : ∀ s, s.pc.body.standing = true → Keeps w d s (raise s)) (s : State) :
    Keeps w d s (s.tipTestWith raise) := by
  rcases tipTestWith_cases raise s with ⟨-, e⟩ | ⟨-, -, e⟩ | ⟨-, -, -, e⟩ | ⟨tested, -, -, e⟩ <;> rw [e]
  · exact .frame rfl
  · exact .frame rfl
  · exact .frame rfl
  · exact Keeps.after (hr _ (standing_of_tipTested tested)) rfl

theorem stanceUpdateWith_kept {test : State → State} (ht : ∀ s, Keeps w d s (test s)) (s : State) :
    Keeps w d s (s.stanceUpdateWith test) := by
  rcases stanceUpdateWith_cases test s with ⟨-, e⟩ | ⟨-, e⟩ <;> rw [e]
  · exact .refl ..
  · exact (restanced_kept s).trans (ht _)

/-! ### The protect latch -/

theorem heldTip_kept (s : State) : Keeps w d s s.heldTip := .frame (postNote_watched _ _)

theorem holdLeg_kept (s : State) (l : Leg) : Keeps none d s (s.holdLeg l) := by
  cases hm : (s.modeOf l).loose with
  | false =>
    rw [holdLeg_of_not_loose hm]
    exact .refl ..
  | true =>
    rw [holdLeg_of_loose hm]
    have held : Keeps none d s (s.setMode l .hold) := (setCmd_commanded (by decide) l _ _ fun h => by cases h).keeps
    exact held.trans (stanceUpdateWith_kept (tipTestWith_kept fun s _ => heldTip_kept s) _)

theorem protect_kept (s : State) (b : Bool) : Keeps none d s { s with pc.protect := b } :=
  ⟨fun _ => .refl _, fun _ => id, id, fun _ _ => id, fun _ _ => id, fun _ h => ⟨h, fun _ he _ => he⟩, nofun⟩

theorem setProtect_kept (s : State) : Keeps none d s s.setProtect :=
  Keeps.ite (fun _ => .refl ..) fun _ =>
    (protect_kept s true).trans (Keeps.after (foldl_kept holdLeg_kept _ _) (postFault_watched _ _ _))

theorem overflow_kept (s : State) (c : Trigger) (l : Option Leg) : Keeps none d s (s.overflow c l) :=
  Keeps.after (setProtect_kept _) (postNote_watched _ _)

/-! ### TIP raised -/

/-- R143: no context but that of a reflex says that a leg's PLACE runs. -/
theorem running_of_currentContext {r : Running} (h : s.currentContext = .recover r) : s.rxu.running = some r := by
  unfold currentContext at h
  split at h
  · rename_i e
    rw [e]
    cases h
    rfl
  · split at h
    · cases h
    · split at h
      · split at h <;> cases h
      · cases h
      · cases h
      · cases h

theorem begun_watched (s : State) (r : Running) :
    (s.entered r).watched =
      { s.watched with stack := s.currentContext :: s.rxu.stack, re1 := false, running := some r, standing := true,
                       placement := none, phase := .idle } := rfl

/-- R143: what stands aside places no leg that none was placed on. -/
theorem not_places_of_pushed {l : Leg} (h : s.watched.Grounded l) (r : Running)
    (hr : .recover r ∈ s.currentContext :: s.rxu.stack) : ¬ r.places l := by
  rcases List.mem_cons.mp hr with e | hm
  · exact h.running r (running_of_currentContext e.symm)
  · exact h.stack r hm

/-- R154, R155: a TIP taken by a CROUCH. -/
theorem crouch_kept (hc : s.rxu.crouch = .clear) : Keeps w d s (s.entered crouchReflex).beginCrouch := by
  have commanded : Commanded w (s.entered crouchReflex) (s.entered crouchReflex).crouchAll := crouchAll_commanded _
  have crouched : (s.entered crouchReflex).beginCrouch.watched =
      { (s.entered crouchReflex).crouchAll.watched with crouch := .running } := rfl
  rw [Keeps, crouched, commanded.watched, begun_watched]
  obtain ⟨sounds, -, -, -, rxu, -, store, modes, leg⟩ := commanded
  refine ⟨fun k => (sounds k).1, fun k => ?_, fun _ => rfl, fun _ => modes, fun _ _ => id, fun _ ⟨live, waits, _⟩ => ⟨?_, fun _ he _ => he⟩,
    fun l hw ground => ?_⟩
  · have kept := (sounds k).2
    rw [OverloadSound, OverloadSound, State.watched, State.watched, rxu] at kept
    exact kept
  · exact ⟨rfl, waits, .inr ⟨nofun, rfl, rfl, rfl⟩⟩
  · obtain ⟨mode, verified, window⟩ := leg l hw ground.mode
    have kept := (sounds l).1
    refine ⟨?_, verified, window, store, fun _ _ => id⟩
    refine { ground with
      standing := rfl, mode := mode, link := kept.link.trans ground.link, admitted := kept.withdrawn.trans ground.admitted,
      tied := ground.tied.trans verified.symm, depth := ?_, running := ?_, stack := not_places_of_pushed ground, placement := nofun }
    · have room := ground.depth
      have clear : s.watched.crouch = .clear := hc
      rw [Watched.depth, clear] at room
      simp [Watched.depth, watched] at room ⊢
      omega
    · rintro r hr ⟨stage, -⟩
      cases hr
      cases stage

/-- R158: the stack has room wherever a leg on the ground is watched. -/
theorem room_of_grounded {l : Leg} (h : s.watched.Grounded l) : s.rxu.stack.length ≤ 2 :=
  (Nat.le_add_right _ _).trans ((Nat.le_add_right _ _).trans h.depth)

theorem raiseTip_kept (s : State) (hb : s.pc.body.standing = true) : Keeps w d s s.raiseTip := by
  by_cases noted : s.pc.protect = true ∨ s.rxu.crouch ≠ .clear
  · obtain ⟨dropped, hli, e⟩ := raiseTip_not_taken noted
    rw [e]
    exact .frame rfl
  · obtain ⟨hp, hc⟩ := not_or.mp noted
    by_cases room : s.rxu.stack.length < 4
    · rw [raiseTip_taken hb (by simpa using hp) (not_not.mp hc) room]
      exact crouch_kept (not_not.mp hc)
    · have overflows : s.raiseTip = s.overflow .tip none := by
        have full : ¬ s.rxu.stack.length < Config.contextCapacity := room
        simp [raiseTip, hp, not_not.mp hc, full]
      rw [overflows]
      exact (overflow_kept ..).of_not_grounded fun l _ ground => room (by have := room_of_grounded ground; omega)

theorem tipTest_kept (s : State) : Keeps w d s s.tipTest := tipTestWith_kept raiseTip_kept s

theorem stanceUpdate_kept (s : State) : Keeps w d s s.stanceUpdate := stanceUpdateWith_kept tipTest_kept s

theorem recomputeTest_kept (s : State) : Keeps w d s s.recomputeTest := Keeps.after (tipTest_kept _) rfl

/-! ### Phases, holds and ends of walks -/

theorem idlePhase_kept (s : State) : Keeps w d s s.idlePhase := .phase rfl (.inl rfl)

theorem beginShift_kept (l : Leg) (hq : d = true → s.rxu.running = none) : Keeps w d s (s.beginShift l) :=
  .phase (phase := .shift) rfl (.inr hq)

theorem beginStepShift_kept (l : Leg) (i : Nat) (hq : d = true → s.rxu.running = none) :
    Keeps w d s (s.beginStepShift l i) := by
  refine .phase (phase := .shift) ?_ (.inr hq)
  unfold beginStepShift
  dsimp only
  split <;> rfl

theorem beginStride_kept (hq : d = true → s.rxu.running = none) : Keeps w d s s.beginStride :=
  Keeps.after (beginStepShift_kept _ _ hq) rfl

theorem beginPause_kept (hq : d = true → s.rxu.running = none) : Keeps w d s s.beginPause :=
  .phase (phase := .pause) rfl (.inr hq)

@[simp] theorem endStep_watched (s : State) : s.endStep.watched = s.watched := by
  unfold endStep strideEnd
  split
  · exact postNote_watched _ _
  · rfl

theorem enterHold_kept (s : State) (n : NextStep) (r : BodyReason) : Keeps w d s (s.enterHold n r) :=
  (idlePhase_kept s).trans (Keeps.after (setBody_kept _ _ rfl) rfl)

theorem walkOver_kept (s : State) (r : BodyReason) : Keeps w d s (s.walkOver r) :=
  (idlePhase_kept s).trans (Keeps.after (setBody_kept _ _ rfl) rfl)

theorem holdAfterStep_kept (s : State) (r r' : BodyReason) : Keeps w d s (s.holdAfterStep r r') :=
  Keeps.ite (fun _ => Keeps.after (walkOver_kept _ _) (endStep_watched s))
    fun _ => Keeps.after (enterHold_kept _ _ _) (endStep_watched s)

theorem resumeAsHold_kept (s : State) (l : Option Leg) (i : Nat) (f : Phase) (r : BodyReason) :
    Keeps w d s (s.resumeAsHold l i f r) := by
  unfold resumeAsHold
  split
  · exact enterHold_kept ..
  · exact Keeps.after (holdAfterStep_kept ..) rfl
  · exact enterHold_kept ..

/-! ### The reseat procedure -/

theorem unreseated_kept (s : State) : Keeps w d s s.unreseated := .phase (phase := .idle) rfl (.inl rfl)

theorem reseatSucceed_kept (s : State) (n : Nat) : Keeps w d s (s.reseatSucceed n) := by
  have noted : Keeps w d s (s.unreseated.postNote (.step none n s.scu.margin)) :=
    (unreseated_kept s).trans (.frame (postNote_watched _ _))
  unfold reseatSucceed
  dsimp only
  split
  · exact noted
  · exact noted.trans (Keeps.after (Keeps.after (setBody_kept _ _ rfl) rfl) (postStride_watched _))
  · exact noted.trans (setBody_kept _ _ rfl)

theorem reseatFail_kept (s : State) : Keeps w d s s.reseatFail := by
  have noted : Keeps w d s s.reseatGivenUp := (unreseated_kept s).trans (.frame (postNote_watched _ _))
  by_cases h : s.pls.origin = .stand
  · rw [reseatFail_of_stand h]
    exact noted.trans (Keeps.after (setBody_kept _ _ rfl) rfl)
  · rw [reseatFail_of_ne h]
    exact noted

theorem reseatCheck_kept (n : Nat) (hq : d = true → s.rxu.running = none) : Keeps w d s (s.reseatCheck n) := by
  unfold reseatCheck
  dsimp only
  split
  · exact Keeps.after (reseatSucceed_kept _ _) rfl
  · split
    · exact Keeps.after (reseatFail_kept _) rfl
    · exact Keeps.after (beginShift_kept _ hq) rfl

end State
end Sys2Proof.Machine
end


section
/-! ## What reflexes keep -/

namespace Sys2Proof.Machine

namespace State

open Watched (Kept LinkKept LegKept Grounded Dormant Aside OverloadSound)

variable {s t u : State} {w : Option Leg} {d : Bool}

/-! ### Stages -/

/-- R74: a placement of another leg than the watched one. -/
theorem beginPlacement_kept (l : Leg) (p : Point) (c : Int) (e : Option Foothold)
    (hq : d = true → s.rxu.running = none) (hp : ∀ k, w = some k → s.watched.Grounded k → l ≠ k) :
    Keeps w d s (s.beginPlacement l p c e) := by
  have chain {w : Option Leg} (hw : ∀ k, w = some k → l ≠ k) : Keeps w d s (s.beginPlacement l p c e) := by
    have placed : Keeps w d s (s.placing l p c e) :=
      .place (placement := some l) rfl (.inr hq) fun k hk _ he => hw k hk (Option.some.inj he)
    exact placed.trans ((airCmd_commanded (by decide) l p _ fun h => absurd rfl (hw l h)).keeps.trans (stanceUpdate_kept _))
  refine (chain (w := none) fun _ h => by cases h).of_grounded fun k hk ground => chain fun j hj => ?_
  cases hk.symm.trans hj
  exact hp _ hk ground

/-- The reflex that runs, where the Reflex Unit is not watched. -/
theorem Keeps.run {running : Option Running} (e : t.watched = { s.watched with running := running })
    (hr : ∀ l, w = some l → s.watched.Grounded l → ∀ r, running = some r → ¬ r.places l) : Keeps w false s t := by
  unfold Keeps
  rw [e]
  exact ⟨fun _ => .refl _, fun _ => id, id, fun _ _ => id, fun _ _ => id, nofun,
    fun l hw ground => ⟨{ ground with running := hr l hw ground }, rfl, rfl, rfl, nofun⟩⟩

theorem startStage_kept (s : State) : Keeps w false s s.startStage.1 := by
  cases hr : s.rxu.running with
  | none =>
    simp only [startStage, hr]
    exact .refl ..
  | some r =>
    simp only [startStage, hr]
    split
    · exact .refl ..
    · rename_i l stage _
      split
      · rename_i air
        have swung : Keeps w false s (s.airCmd l .swing r.retract (s.retractClearance r)) :=
          (airCmd_commanded (by decide) _ _ _ fun _ => by rcases air with h | h <;> simp [h]).keeps
        refine swung.trans (.run rfl fun k _ _ q hq ⟨place, _⟩ => ?_)
        cases hq
        cases stage.symm.trans place
      · exact .refl ..
    · rename_i l stage leg
      split
      · exact .refl ..
      · refine beginPlacement_kept _ _ _ _ nofun fun k hk ground he => ?_
        subst he
        exact ground.running r hr ⟨stage, leg⟩
    · exact Keeps.after (beginShift_kept _ nofun) rfl
    · exact .frame (by simp [watched, hr])
    · split
      · exact .refl ..
      · exact Keeps.after (beginShift_kept _ nofun) (by simp [watched, hr])
    · exact .refl ..

/-! ### A cause taken -/

/-- R142: a reflex entered while none is live but by its taking. -/
theorem entered_kept (r : Running) (hc : s.rxu.crouch = .clear) (live : s.rxu.re1 = true) (hp : ∀ l, ¬ r.places l) :
    Keeps w false s (s.entered r) := by
  rw [Keeps, begun_watched]
  refine ⟨fun _ => .refl _, fun _ => id, fun _ => rfl, fun _ _ => id, fun _ _ => id, nofun, fun l hw ground => ?_⟩
  refine ⟨{ ground with standing := rfl, depth := ?_, running := ?_, stack := not_places_of_pushed ground, placement := nofun },
    rfl, rfl, rfl, nofun⟩
  · have room := ground.depth
    simp only [Watched.depth, watched, hc, live, and_self, if_true] at room
    simp only [Watched.depth, watched, hc, List.length_cons, Bool.false_eq_true, and_false, if_true, if_false]
    omega
  · rintro q hq
    cases hq
    exact hp l

/-- R147: a reflex begins with another stage than PLACE. -/
theorem reflexFor_not_places (s : State) (c : Cause) (l k : Leg) : ¬ (s.reflexFor c l).places k := by
  rintro ⟨stage, -⟩
  have first : (s.selectReflex c l).1.firstStage = .place := stage
  generalize (s.selectReflex c l).1 = kind at first
  cases kind <;> cases first

theorem braceRaise_kept (s : State) (i : Int) : Keeps w d s (s.braceRaise i) := by
  unfold braceRaise
  exact (moveStance_commanded s _).keeps

theorem takeCause_kept (c : Cause) (l : Leg) (hb : s.pc.body.standing = true) (hc : s.rxu.crouch = .clear)
    (live : s.rxu.re1 = true) : Keeps w false s (s.takeCause c l).1 := by
  unfold takeCause
  split
  · dsimp only
    have enters : Keeps w false s (s.enterReflex (s.reflexFor c l)) := by
      rw [enterReflex_eq _ (mayRecover_of_standing hb)]
      exact entered_kept _ hc live (reflexFor_not_places s c l)
    have begins : Keeps w false s (if (s.reflexFor c l).kind = .brace
        then (s.enterReflex (s.reflexFor c l)).braceRaise (s.reflexFor c l).param
        else s.enterReflex (s.reflexFor c l)).startStage.1 :=
      (Keeps.ite (fun _ => enters.trans (braceRaise_kept _ _)) fun _ => enters).trans (startStage_kept _)
    split
    · rename_i e
      rw [e] at begins
      exact Keeps.ite (fun _ => begins) fun _ => begins.trans (tipTest_kept _)
    · exact begins
  · rename_i full
    exact (overflow_kept ..).of_not_grounded fun k _ ground =>
      full ((room_of_grounded ground).trans_lt (by decide))

/-- R141: an entry that leaves the list. -/
theorem unlisted_kept {e : Pending} {rest : List Pending} (he : s.rxu.pending = e :: rest) :
    Keeps w false s { s with rxu.pending := rest } := by
  refine ⟨fun _ => .refl _, fun k sound hm => sound ?_, id, fun _ _ => id, fun _ _ => id, nofun, fun l _ ground => ?_⟩
  · have listed : ⟨.overload, k⟩ ∈ s.rxu.pending := he ▸ List.mem_cons_of_mem _ hm
    exact listed
  · exact ⟨{ ground with }, rfl, rfl, rfl, nofun⟩

theorem mayTakePending_iff : s.mayTakePending = true ↔ s.rxu.re1 = true ∧ s.pc.body.standing = true ∧
    s.pc.protect = false ∧ s.rxu.crouch = .clear ∧ s.rxu.pending ≠ [] := by
  simp [mayTakePending, and_assoc]

theorem takeOldest_kept (h : s.mayTakePending = true) : Keeps w false s s.takeOldest.1 := by
  obtain ⟨live, hb, -, hc, -⟩ := mayTakePending_iff.mp h
  unfold takeOldest
  split
  · exact .refl ..
  · rename_i e rest he
    exact (unlisted_kept he).trans (takeCause_kept (s := { s with rxu.pending := rest }) _ _ hb hc live)

/-! ### The end of a reflex -/

/-- R151, R152: what the end of a reflex leaves to be resumed. -/
theorem popped_kept {r : Running} {c : Context} {below : List Context} (f : Bool) (hs : s.rxu.stack = c :: below) :
    Keeps w false s (s.popped r below f) := by
  have rest : (s.popped r below f).watched =
      { s.watched with stack := below, re1 := s.rxu.re2, running := none, waiting := s.rxu.waiting && !s.rxu.re2,
                       phase := .idle } := by
    unfold popped
    rw [postNote_watched]
    rfl
  rw [Keeps, rest]
  refine ⟨fun _ => .refl _, fun _ => id, id, fun _ _ => id, fun _ _ => id, (fun h => nomatch h), fun l hw ground => ?_⟩
  refine ⟨{ ground with settled := ?_, depth := ?_, running := fun _ h => (by cases h), stack := fun q hq => ?_ }, rfl, rfl, rfl, nofun⟩
  · have settled : s.rxu.waiting = false := ground.settled
    exact Bool.and_eq_false_imp.mpr fun h => by rw [settled] at h; cases h
  · have room := ground.depth
    simp only [Watched.depth, watched, hs, List.length_cons] at room ⊢
    by_cases hc : s.rxu.crouch = .clear
    · simp only [hc, true_and, if_true] at room ⊢
      have fewer := (Nat.le_add_right _ _).trans room
      split <;> omega
    · simp only [hc, false_and, if_false] at room ⊢
      omega
  · refine ground.stack q ?_
    have listed : .recover q ∈ s.rxu.stack := hs ▸ List.mem_cons_of_mem _ hq
    exact listed

theorem origin_body_standing (o : Origin) : o.body.standing = true := by cases o <;> rfl

/-- R151, R152: a context resumed, no leg watched on the ground being placed by its reflex. -/
theorem resumeContext_kept (c : Context) (f : Bool)
    (hc : ∀ l, w = some l → s.watched.Grounded l → ∀ r, c = .recover r → ¬ r.places l) :
    Keeps w false s (s.resumeContext c f).1 := by
  cases c with
  | stand => exact setBody_kept _ _ rfl
  | unsettled => exact setBody_kept _ _ rfl
  | hold => exact Keeps.after (setBody_kept _ _ rfl) rfl
  | recover r =>
    have resumes : Keeps w false s { s with rxu.running := some r } :=
      .run (running := some r) rfl fun l hw ground q hq => hc l hw ground q (congrArg _ (Option.some.inj hq))
    exact resumes.trans (startStage_kept _)
  | reseat o n k x y a =>
    have stands : Keeps w false s ({ s with ssq.next := y, ssq.count := k, ssq.dir := x }.setBody o.body .done) :=
      Keeps.after (setBody_kept _ _ (origin_body_standing o)) rfl
    exact stands.trans (Keeps.after (reseatCheck_kept _ nofun) rfl)
  | walk leg i phase k x a =>
    simp only [resumeContext]
    split
    · exact Keeps.after (resumeAsHold_kept ..) rfl
    · have walks : Keeps w false s ({ s with ssq.count := k, ssq.dir := x }.setBody .walk .done) :=
        Keeps.after (setBody_kept _ _ rfl) rfl
      split
      · exact walks.trans (.phase (phase := .propel) rfl (.inr nofun))
      · exact walks.trans (beginPause_kept nofun)
      · exact walks.trans (beginStepShift_kept _ _ nofun)

theorem endReflex_kept (f : Bool) : Keeps w false s (s.endReflex f).1 := by
  rcases hr : s.rxu.running with _ | r
  · simp only [endReflex, hr]
    exact .refl ..
  · rcases hs : s.rxu.stack with _ | ⟨c, below⟩
    · simp only [endReflex, hr, hs]
      exact .refl ..
    · rw [endReflex_eq hr hs]
      refine Keeps.of_grounded ((popped_kept f hs).trans (resumeContext_kept c f nofun)) fun l hw ground => ?_
      refine (popped_kept f hs).trans (resumeContext_kept c f fun k hk _ q hq => ?_)
      cases hw.symm.trans hk
      refine ground.stack q ?_
      have top : .recover q ∈ s.rxu.stack := by
        rw [hs, hq]
        exact List.mem_cons_self
      exact top

theorem resumedTest_kept (s : State) : Keeps w d s s.resumedTest :=
  Keeps.ite (fun _ => .refl ..) fun _ => tipTest_kept s

theorem settleReflex_kept (n : Nat) (s : State) (v : Verdict) : Keeps w false s (settleReflex n s v) := by
  induction n generalizing s v with
  | zero => exact .refl ..
  | succ n ih =>
    by_cases hv : v = .running
    · rw [hv, settleReflex_running]
      exact .refl ..
    · have ended : Keeps w false s (s.endReflex (v == .failed)).1 := endReflex_kept _
      rcases e : s.endReflex (v == .failed) with ⟨t, v'⟩
      rw [e] at ended
      by_cases hv' : v' = .running
      · subst hv'
        rw [settleReflex_of_resumed n hv e]
        have tested := ended.trans (resumedTest_kept t)
        split
        · rename_i may
          exact tested.trans ((takeOldest_kept may).trans (ih _ _))
        · exact tested
      · rw [settleReflex_of_ended_again n hv hv' e]
        exact ended.trans (ih _ _)

theorem settle_kept (s : State) (v : Verdict) : Keeps w false s (s.settle v) := settleReflex_kept _ _ _

/-! ### Causes raised and taken -/

theorem not_dormant_of_live (live : s.rxu.re1 = true) : ¬ s.watched.Dormant := fun h => by
  cases live.symm.trans h.1

theorem takesAtOnce_iff {l : Leg} : s.takesAtOnce l = true ↔ s.pc.body.standing = true ∧ s.admitted l = true ∧
    s.pc.protect = false ∧ s.rxu.crouch = .clear ∧ s.rxu.re1 = true := by
  simp [takesAtOnce, and_assoc]

theorem take_kept {c : Cause} {l : Leg} (h : s.takesAtOnce l = true) : Keeps w d s (s.take c l) := by
  obtain ⟨hb, -, -, hc, live⟩ := takesAtOnce_iff.mp h
  exact ((takeCause_kept c l hb hc live).trans (settle_kept _ _)).of_not_dormant (not_dormant_of_live live)

theorem takePending_kept (s : State) : Keeps w d s s.takePending := by
  unfold takePending
  split
  · rename_i may
    exact ((takeOldest_kept may).trans (settle_kept _ _)).of_not_dormant
      (not_dormant_of_live (mayTakePending_iff.mp may).1)
  · exact .refl ..

theorem rise_kept (hw : s.rxu.waiting = true) : Keeps w d s { s with rxu.re1 := true, rxu.waiting := false } :=
  Keeps.of_waiting (.loose rfl rfl rfl rfl) hw

theorem enableRise_kept (hw : s.rxu.waiting = true) : Keeps w d s s.enableRise :=
  (rise_kept hw).trans (takePending_kept _)

theorem bodySettled_kept (s : State) (b : BodyState) : Keeps w d s (s.bodySettled b) := by
  unfold bodySettled
  dsimp only
  split
  · exact .refl ..
  · split
    · rename_i rises
      exact (tipTest_kept s).trans (enableRise_kept (Bool.and_eq_true_iff.mp rises).1)
    · exact tipTest_kept s

theorem pendAdd_kept {c : Cause} {l : Leg} (h : c = .overload → (s.link l).overload = true) :
    Keeps w d s (s.pendAdd c l) := by
  unfold pendAdd
  split
  · exact .refl ..
  · refine ⟨fun _ => .refl _, fun k sound hm => ?_, id, fun _ _ => id, fun _ _ => id, fun _ dormant => ⟨dormant, fun e he _ => ?_⟩,
      fun k _ ground => ⟨{ ground with }, rfl, rfl, rfl, fun _ _ hs => ?_⟩⟩
    · rcases List.mem_append.mp hm with hm | hm
      · exact sound hm
      · cases List.mem_singleton.mp hm
        exact h rfl
    · exact List.mem_append_left _ he
    · exact List.mem_append_left _ hs

/-- R137: a cause dropped, of a leg that is not watched on the ground. -/
theorem dropCause_kept {c : Cause} {l : Leg} (h : c ≠ .overload) (hw : ∀ k, w = some k → s.watched.Grounded k → k ≠ l) :
    Keeps w d s (s.dropCause c l) := by
  unfold dropCause
  cases c with
  | overload => exact absurd rfl h
  | slip =>
    refine ⟨fun _ => .refl _, fun _ => id, id, fun _ _ => id, fun _ _ => id, fun _ dormant => ⟨dormant, fun _ he _ => he⟩,
      fun k hk ground => ⟨{ ground with }, rfl, ?_, rfl, fun _ _ => id⟩⟩
    have other := hw k hk ground
    simp [watched, PerLeg.get_modify, other]
  | _ => exact .frame rfl

theorem raiseCause_kept {c : Cause} (h : c ≠ .overload) (s : State) (l : Leg) : Keeps w d s (s.raiseCause c l) := by
  rcases raiseCause_cases s c l with ⟨out, e⟩ | ⟨-, -, -, e⟩ | ⟨at', e⟩ <;> rw [e]
  · refine dropCause_kept h fun k _ ground hk => ?_
    subst hk
    rcases out with out | out
    · cases out.symm.trans ground.standing
    · have kept : (s.link k).withdrawn = false := ground.admitted
      simp [admitted, kept] at out
  · exact pendAdd_kept fun hc => absurd hc h
  · exact take_kept at'

/-! ### Stages that end -/

theorem runStage_kept (s : State) : Keeps w false s s.runStage := (startStage_kept s).trans (settle_kept _ _)

/-- R146: the stage that waits or passes completes, or a LIFT whose leg is not watched on the ground. -/
theorem stageDone_kept (hl : ∀ l, w = some l → s.watched.Grounded l → ∀ r, s.rxu.running = some r → r.stage ≠ .lift) :
    Keeps w false s s.stageDone := by
  unfold stageDone
  dsimp only
  cases hr : s.rxu.running with
  | none => exact .refl ..
  | some r =>
    dsimp only
    split
    · rename_i stage
      have places : Keeps w false s { s with rxu.running := some { r with stage := .place }, rxu.liftTimer := none } :=
        .run rfl fun l hw ground _ _ => absurd stage (hl l hw ground r hr)
      split
      · rename_i waits
        have rises := places.trans (rise_kept (s := { s with rxu.running := some { r with stage := .place }, rxu.liftTimer := none }) waits)
        split
        · exact rises.trans (takePending_kept _)
        · exact rises.trans (runStage_kept _)
      · exact places.trans (runStage_kept _)
    · exact settle_kept _ _

end State
end Sys2Proof.Machine
end


section
/-! ## What phase boundaries, placements and the end of a PROPEL keep -/

namespace Sys2Proof.Machine

namespace State

open Watched (Kept LinkKept LegKept Grounded Dormant Aside OverloadSound)

variable {s t u : State} {w : Option Leg} {d : Bool}

theorem running_of_watched (e : t.watched = s.watched) (hq : d = true → s.rxu.running = none) :
    d = true → t.rxu.running = none := fun h => (congrArg Watched.running e :).trans (hq h)

/-! ### Boundaries -/

theorem beginPropel_kept (hq : d = true → s.rxu.running = none) : Keeps w d s s.beginPropel := by
  unfold beginPropel
  dsimp only
  exact Keeps.trans (.phase (phase := .propel) rfl (.inr hq)) (moveStance_commanded _ _).keeps

@[simp] theorem postHoldFaults_watched (s : State) : s.postHoldFaults.watched = s.watched := by
  unfold postHoldFaults
  dsimp only
  split <;> split <;> simp

theorem endByStop_kept (s : State) (r : BodyReason) : Keeps w d s (s.endByStop r) :=
  Keeps.after (Keeps.after (walkOver_kept _ r) rfl) (postStride_watched s)

theorem stopAtBoundary_kept (s : State) (b : Boundary) : Keeps w d s (s.stopAtBoundary b) := by
  unfold stopAtBoundary
  dsimp only
  refine Keeps.trans ?_ ((bodySettled_kept _ _).trans (takePending_kept _))
  split
  · exact Keeps.ite (fun _ => Keeps.after (walkOver_kept _ _) (endStep_watched s))
      fun _ => Keeps.after (endByStop_kept _ _) (endStep_watched s)
  · exact endByStop_kept _ _

theorem holdAtBoundary_kept (s : State) (b : Boundary) : Keeps w d s (s.holdAtBoundary b) := by
  unfold holdAtBoundary
  dsimp only
  refine Keeps.trans ?_ (bodySettled_kept _ _)
  split
  · exact Keeps.after (holdAfterStep_kept _ _ _) (postHoldFaults_watched s)
  · exact Keeps.after (enterHold_kept _ _ _) (postHoldFaults_watched s)
  · exact Keeps.after (enterHold_kept _ _ _) (postHoldFaults_watched s)

/-- R52: what goes on but for a lift. -/
theorem goOn_kept {b : Boundary} (hb : b ≠ .lift) (hq : d = true → s.rxu.running = none) : Keeps w d s (s.goOn b) := by
  unfold goOn
  cases b with
  | lift => exact absurd rfl hb
  | placed => exact beginPropel_kept hq
  | propel e =>
    refine Keeps.ite (fun _ => Keeps.ite (fun _ => beginPause_kept hq) fun _ => beginStride_kept hq) fun _ => ?_
    exact beginStepShift_kept _ _ hq
  | pause => exact beginStride_kept hq

theorem enablesAtBoundary_kept (s : State) : Keeps w d s s.enablesAtBoundary :=
  Keeps.ite (fun hw => rise_kept hw) fun _ => .refl ..

@[simp] theorem enablesAtBoundary_running (s : State) : s.enablesAtBoundary.rxu.running = s.rxu.running := by
  unfold enablesAtBoundary
  split <;> rfl

theorem boundary_kept {b : Boundary} (hb : b ≠ .lift) (hq : d = true → s.rxu.running = none) :
    Keeps w d s (s.boundary b) := by
  have enabled : Keeps w d s s.enablesAtBoundary := enablesAtBoundary_kept s
  rw [boundary_eq]
  refine Keeps.ite (fun _ => stopAtBoundary_kept _ _) fun _ => ?_
  refine Keeps.ite (fun _ => enabled.trans (takePending_kept _)) fun _ => ?_
  refine Keeps.ite (fun _ => enabled.trans (holdAtBoundary_kept _ _)) fun _ => ?_
  exact enabled.trans (goOn_kept hb (by simpa using hq))

theorem boundaryFailed_kept (s : State) : Keeps w d s s.boundaryFailed := by
  have enabled : Keeps w d s s.enablesAtBoundary := enablesAtBoundary_kept s
  rw [boundaryFailed_eq]
  refine Keeps.ite (fun _ => stopAtBoundary_kept _ _) fun _ => ?_
  exact Keeps.ite (fun _ => enabled.trans (takePending_kept _)) fun _ => enabled.trans (holdAtBoundary_kept _ _)

/-! ### The end of a PROPEL -/

theorem propelComplete_kept (hq : d = true → s.rxu.running = none) : Keeps w d s s.propelComplete := by
  unfold propelComplete
  dsimp only
  generalize hu : State.zoneLookup _ _ = u
  have looked : u.watched = s.watched := by
    rw [← hu, zoneLookup_watched]
    rfl
  have swayed : ({ u with scu.sway := Pair.zero } : State).watched = s.watched := by
    rw [← looked]
    rfl
  have ended := (endStep_watched _).trans swayed
  have none := running_of_watched ended hq
  refine Keeps.after (Keeps.ite (fun _ => ?_) fun _ => ?_) swayed
  · exact Keeps.after ((walkOver_kept _ _).trans (bodySettled_kept _ _)) (endStep_watched _)
  · have after : Keeps w d (State.endStep { u with scu.sway := Pair.zero }) (State.endStep { u with scu.sway := Pair.zero }).afterStep :=
      .phase (phase := .shift) rfl (.inr none)
    exact Keeps.after (after.trans (boundary_kept nofun none)) (endStep_watched _)

/-- R62, R149: the operations that wait for the stance legs to settle. -/
theorem settleWaiters_kept (s : State) : Keeps w d s s.settleWaiters := by
  unfold settleWaiters
  split
  · split
    · rename_i none _
      exact propelComplete_kept fun _ => none
    · rename_i r running
      split
      · rename_i waits
        refine (stageDone_kept fun l _ _ q hq lift => ?_).of_not_dormant ?_
        · cases running.symm.trans hq
          cases waits.symm.trans lift
        · rintro ⟨-, -, none | ⟨-, crouch, -⟩⟩
          · cases running.symm.trans none
          · cases running.symm.trans crouch
            cases waits
      · exact .refl ..
    · exact .refl ..
  · exact .refl ..

theorem stanceChange_kept (s : State) : Keeps w d s s.stanceChange :=
  Keeps.ite (fun _ => .refl ..) fun _ => (stanceUpdate_kept s).trans (settleWaiters_kept _)

/-! ### Placements, where no leg is watched -/

/-- R154: the reflex that runs is the one that ran, but for a CROUCH begun. -/
theorem tipTest_running (s : State) :
    s.tipTest.rxu.running = s.rxu.running ∧ s.tipTest.rxu.crouch = s.rxu.crouch ∨
      s.tipTest.rxu.crouch = .running ∧ s.rxu.crouch = .clear := by
  rcases tipTestWith_cases raiseTip s with ⟨-, e⟩ | ⟨-, -, e⟩ | ⟨-, -, -, e⟩ | ⟨tested, -, -, e⟩ <;> rw [tipTest, e]
  · exact .inl ⟨rfl, rfl⟩
  · exact .inl ⟨rfl, rfl⟩
  · exact .inl ⟨rfl, rfl⟩
  · by_cases noted : s.pc.protect = true ∨ s.rxu.crouch ≠ .clear
    · obtain ⟨dropped, hli, e⟩ :=
        raiseTip_not_taken (s := { s with scu.tipCondition := true, scu.tipRaised := true }) noted
      rw [e]
      exact .inl ⟨rfl, rfl⟩
    · obtain ⟨hp, hc⟩ := not_or.mp noted
      rcases raiseTip_cases (s := { s with scu.tipCondition := true, scu.tipRaised := true })
        (standing_of_tipTested tested) with ⟨dropped, hli, e⟩ | e | e <;> rw [e]
      · exact .inl ⟨rfl, rfl⟩
      · exact .inr ⟨rfl, not_not.mp hc⟩
      · have latched := (setProtect_latched (s := State.postNote
          { s with scu.tipCondition := true, scu.tipRaised := true, rxu.dropped := countUp 255 s.rxu.dropped }
          (.fault .overflow none (some .tip))) (by simpa using hp)).rxu
        rw [postNote_rxu] at latched
        exact .inl ⟨(congrArg Reflexes.running latched :), (congrArg Reflexes.crouch latched :)⟩

theorem stanceUpdate_running (s : State) :
    s.stanceUpdate.rxu.running = s.rxu.running ∧ s.stanceUpdate.rxu.crouch = s.rxu.crouch ∨
      s.stanceUpdate.rxu.crouch = .running ∧ s.rxu.crouch = .clear := by
  rcases stanceUpdateWith_cases tipTest s with ⟨-, e⟩ | ⟨-, e⟩ <;> rw [stanceUpdate, e]
  · exact .inl ⟨rfl, rfl⟩
  · have unlisted := restanced_unlisted s
    have running : s.restanced.rxu.running = s.rxu.running := (congrArg Reflexes.running unlisted :)
    have crouch : s.restanced.rxu.crouch = s.rxu.crouch := (congrArg Reflexes.crouch unlisted :)
    rw [← running, ← crouch]
    exact tipTest_running _

theorem setVerified_kept (s : State) (l : Leg) (v : Bool) : Keeps none d s (s.setVerified l v) :=
  .unwatched (verified := s.ssq.verified.set l v) (stance := s.scu.stance) (slips := s.slm) rfl

theorem reseatNext_kept (hq : d = true → s.rxu.running = none) : Keeps w d s s.reseatNext := by
  unfold reseatNext
  dsimp only
  split
  · exact (idlePhase_kept s).trans (Keeps.after (beginShift_kept _ hq) rfl)
  · refine (idlePhase_kept s).trans (Keeps.trans ?_ (bodySettled_kept _ _))
    exact Keeps.after (reseatCheck_kept _ hq) rfl

theorem stageFailed_kept (s : State) : Keeps w false s s.stageFailed := settle_kept _ _

theorem stageLegDone_kept (f : Bool) (hq : d = true → s.rxu.running = none) : Keeps none d s (s.stageLegDone f) := by
  have failed (s : State) : Keeps none false s s.idlePhase.stageFailed := (idlePhase_kept s).trans (stageFailed_kept _)
  have done (s : State) : Keeps none false s s.idlePhase.stageDone := (idlePhase_kept s).trans (stageDone_kept nofun)
  unfold stageLegDone
  split
  · exact .refl ..
  · rename_i running
    cases d with
    | true => cases running.symm.trans (hq rfl)
    | false =>
      split
      · dsimp only
        split
        · exact (idlePhase_kept s).trans (Keeps.after (beginShift_kept _ nofun) rfl)
        · exact Keeps.after (Keeps.ite (fun _ => failed _) fun _ => done _) rfl
      · exact Keeps.ite (fun _ => failed s) fun _ => done s

theorem setCmd_kept {m : LegMode} (hm : m ≠ .limp) (s : State) (l : Leg) (p : Point) (c : Int) :
    Keeps none d s (s.setCmd l m p c) :=
  (setCmd_commanded hm l p c fun h => by cases h).keeps

theorem airCmd_kept {m : LegMode} (hm : m ≠ .limp) (s : State) (l : Leg) (p : Point) (c : Int) :
    Keeps none d s (s.airCmd l m p c) :=
  (airCmd_commanded hm l p c fun h => by cases h).keeps

theorem lowerAgain_kept (s : State) (l : Leg) : Keeps none d s (s.lowerAgain l) := by
  unfold lowerAgain
  dsimp only
  exact Keeps.after ((airCmd_kept (by decide) _ _ _ _).trans (stanceUpdate_kept _)) rfl

theorem placedVerified_kept (hq : d = true → s.rxu.running = none) : Keeps none d s s.placedVerified := by
  unfold placedVerified
  split
  · exact stageLegDone_kept _ hq
  · exact reseatNext_kept hq
  · exact boundary_kept nofun hq

/-- R77: the leg of a verified attempt commanded to the ground, its contact verified. -/
def landed (s : State) (l : Leg) : State :=
  (setCmd { s with pls.placeTimer := none, pls.reswingTimer := none } l .stance s.pls.attemptTarget
    (s.cmdOf l).clearance).setVerified l true

/-- R77, R27: the same, in the stance set that its contact derives. -/
def touchedDown (s : State) (l : Leg) : State := (s.landed l).stanceUpdateWith fun t => t

/-- R77, R102: the entry in use consumed. -/
def consumedBy (s : State) (l : Leg) : State := if s.pls.entry.isSome then s.consumeHead l else s

/-- R77: the placement ended, with the STEP note. -/
def placedDown (s : State) (l : Leg) : State :=
  { (s.consumedBy l).postNote (.step (some l) (s.consumedBy l).pls.attempt (s.consumedBy l).scu.margin) with
    pls.placement := none, pls.entry := none }

theorem placeVerified_eq (s : State) (l : Leg) :
    s.placeVerified l =
      if ((s.touchedDown l).placedDown l).tipTest.undisturbed then ((s.touchedDown l).placedDown l).tipTest.placedVerified
      else ((s.touchedDown l).placedDown l).tipTest := rfl

theorem touchedDown_kept (s : State) (l : Leg) : Keeps none d s (s.touchedDown l) :=
  Keeps.after ((setCmd_kept (by decide) _ _ _ _).trans
    ((setVerified_kept _ l true).trans (stanceUpdateWith_kept (fun _ => .refl ..) _))) rfl

@[simp] theorem landed_rxu (s : State) (l : Leg) : (s.landed l).rxu = s.rxu :=
  setCmd_rxu (m := .stance) (by decide) { s with pls.placeTimer := none, pls.reswingTimer := none } l s.pls.attemptTarget
    (s.cmdOf l).clearance

theorem touchedDown_running (s : State) (l : Leg) : (s.touchedDown l).rxu.running = s.rxu.running := by
  rcases stanceUpdateWith_cases (fun t => t) (s.landed l) with ⟨-, e⟩ | ⟨-, e⟩ <;> rw [touchedDown, e]
  · rw [landed_rxu]
  · rw [← landed_rxu s l]
    exact (congrArg Reflexes.running (restanced_unlisted (s.landed l)) :)

@[simp] theorem consumedBy_watched (s : State) (l : Leg) : (s.consumedBy l).watched = s.watched := by
  unfold consumedBy
  split <;> rfl

theorem placedDown_watched (s : State) (l : Leg) : (s.placedDown l).watched = { s.watched with placement := none } := by
  have noted := (postNote_watched _ (.step (some l) (s.consumedBy l).pls.attempt (s.consumedBy l).scu.margin)).trans
    (consumedBy_watched s l)
  rw [← noted]
  rfl

theorem placedDown_kept (s : State) (l : Leg) : Keeps w d s (s.placedDown l) :=
  .place (placedDown_watched s l) (.inl rfl) fun _ _ _ => nofun

theorem placedDown_running (s : State) (l : Leg) : (s.placedDown l).rxu.running = s.rxu.running :=
  (congrArg Watched.running (placedDown_watched s l) :)

theorem placeVerified_kept (l : Leg) (hq : d = true → s.rxu.running = none) : Keeps none d s (s.placeVerified l) := by
  rw [placeVerified_eq]
  refine (touchedDown_kept s l).trans ((placedDown_kept _ l).trans
    ((tipTest_kept _).trans (Keeps.ite (fun undisturbed => ?_) fun _ => .refl ..)))
  refine placedVerified_kept fun h => ?_
  rcases tipTest_running ((s.touchedDown l).placedDown l) with ⟨running, -⟩ | ⟨crouch, -⟩
  · rw [running, placedDown_running, touchedDown_running, hq h]
  · simp [State.undisturbed, crouch] at undisturbed

/-- R137: a cause that is not taken leaves the reflex that runs. -/
theorem raiseCause_running {c : Cause} {l : Leg} (h : s.takesAtOnce l = false) :
    (s.raiseCause c l).rxu.running = s.rxu.running ∧ (s.raiseCause c l).rxu.crouch = s.rxu.crouch := by
  rcases raiseCause_cases s c l with ⟨-, e⟩ | ⟨-, -, -, e⟩ | ⟨at', -⟩
  · rw [e]
    cases c <;> exact ⟨rfl, rfl⟩
  · rw [e]
    unfold pendAdd
    split <;> exact ⟨rfl, rfl⟩
  · cases h.symm.trans at'

/-- R81: the part of an exhausted placement before PLACE_FAIL. -/
def placeGivenUp (s : State) (l : Leg) : State :=
  let s := if s.pls.entry.isSome then s.discardHead l else s
  let s := s.leaveInPlacing l
  { s.setVerified l false with pls.placement := none, pls.entry := none, pls.placeTimer := none, pls.reswingTimer := none }

/-- R81: an owner that no TIP pre-empts is told. -/
def toldUnless (s : State) (crouch : CrouchMark) (tell : State → State) : State :=
  if s.rxu.crouch = crouch then tell s else s

theorem placeExhausted_eq (s : State) (l : Leg) :
    s.placeExhausted l =
      match s.owner with
      | .reflex => (s.placeGivenUp l).stanceUpdate.toldUnless s.rxu.crouch fun s => s.stageLegDone true
      | .reseat =>
        if (s.placeGivenUp l).stanceUpdate.takesAtOnce l then (s.placeGivenUp l).stanceUpdate.raiseCause .placeFail l
        else ((s.placeGivenUp l).stanceUpdate.raiseCause .placeFail l).toldUnless s.rxu.crouch reseatNext
      | .stride =>
        if (s.placeGivenUp l).stanceUpdate.takesAtOnce l then (s.placeGivenUp l).stanceUpdate.raiseCause .placeFail l
        else ((s.placeGivenUp l).stanceUpdate.raiseCause .placeFail l).toldUnless s.rxu.crouch boundaryFailed := rfl

theorem placeGivenUp_kept (s : State) (l : Leg) : Keeps none d s (s.placeGivenUp l) := by
  unfold placeGivenUp
  dsimp only
  have discards : Keeps none d s (if s.pls.entry.isSome then s.discardHead l else s) :=
    Keeps.ite (fun _ => .frame rfl) fun _ => .refl ..
  refine discards.trans ?_
  generalize (if s.pls.entry.isSome then s.discardHead l else s) = u
  have left : Keeps none d u (u.leaveInPlacing l) := by
    unfold leaveInPlacing
    split
    · exact .refl ..
    · exact airCmd_kept (by decide) ..
  exact left.trans ((setVerified_kept _ l false).trans (.place (placement := none) rfl (.inl rfl) nofun))

theorem leaveInPlacing_rxu (s : State) (l : Leg) : (s.leaveInPlacing l).rxu = s.rxu := by
  unfold leaveInPlacing
  split
  · rfl
  · rcases airCmd_cases s l .placing s.pls.attemptTarget (s.cmdOf l).clearance with ⟨-, e⟩ | ⟨-, e⟩ <;> rw [e]
    exact setCmd_rxu (by decide) ..

theorem placeGivenUp_rxu (s : State) (l : Leg) : (s.placeGivenUp l).rxu = s.rxu := by
  refine (leaveInPlacing_rxu _ l).trans ?_
  split <;> rfl

theorem placeExhausted_kept (l : Leg) (hq : d = true → s.rxu.running = none) : Keeps none d s (s.placeExhausted l) := by
  have settled : Keeps none d s (s.placeGivenUp l).stanceUpdate := (placeGivenUp_kept s l).trans (stanceUpdate_kept _)
  have raised := settled.trans (raiseCause_kept (c := .placeFail) (by decide) (s.placeGivenUp l).stanceUpdate l)
  have none : d = true → (s.placeGivenUp l).stanceUpdate.rxu.crouch = s.rxu.crouch →
      (s.placeGivenUp l).stanceUpdate.rxu.running = none := fun h kept => by
    rcases stanceUpdate_running (s.placeGivenUp l) with ⟨running, -⟩ | ⟨begins, clear⟩
    · rw [running, placeGivenUp_rxu, hq h]
    · rw [begins, ← placeGivenUp_rxu s l, clear] at kept
      cases kept
  rw [placeExhausted_eq]
  split
  · exact settled.trans (Keeps.ite (fun kept => stageLegDone_kept _ fun h => none h kept) fun _ => .refl ..)
  · refine Keeps.ite (fun _ => raised) fun later => raised.trans (Keeps.ite (fun kept => ?_) fun _ => .refl ..)
    have later : (s.placeGivenUp l).stanceUpdate.takesAtOnce l = false := by simpa using later
    obtain ⟨running, crouch⟩ := raiseCause_running (c := .placeFail) later
    exact reseatNext_kept fun h => running.trans (none h (crouch.symm.trans kept))
  · exact Keeps.ite (fun _ => raised)
      fun _ => raised.trans (Keeps.ite (fun _ => boundaryFailed_kept _) fun _ => .refl ..)

/-- R78, R80: an attempt not verified. -/
theorem placeUnverified_kept (l : Leg) (hq : d = true → s.rxu.running = none) : Keeps none d s (s.placeUnverified l) := by
  unfold placeUnverified
  dsimp only
  split
  · exact Keeps.after ((airCmd_kept (by decide) _ _ _ _).trans (stanceUpdate_kept _)) rfl
  · exact placeExhausted_kept l hq

theorem placeReport_kept (l : Leg) (r : Report) (hq : d = true → s.rxu.running = none) :
    Keeps none d s (s.placeReport l r) := by
  unfold placeReport
  split
  · exact Keeps.ite (fun _ => Keeps.ite (fun _ => placeVerified_kept l hq) fun _ => placeUnverified_kept l hq)
      fun _ => .refl ..
  · exact Keeps.ite (fun _ => lowerAgain_kept s l) fun _ => .refl ..

theorem beginPlace_kept (l : Leg) (hq : d = true → s.rxu.running = none) : Keeps none d s (s.beginPlace l) := by
  have phased : Keeps none d s { s with ssq.phase := .place, ssq.phaseTimer := none } :=
    .phase (phase := .place) rfl (.inr hq)
  exact phased.trans (beginPlacement_kept _ _ _ _ hq nofun)

end State
end Sys2Proof.Machine
end


section
/-! ## What the taking of a report keeps, step by step -/

namespace Sys2Proof.Machine

namespace State

open Watched (Kept LinkKept LegKept Grounded Dormant Aside OverloadSound)

variable {s t u : State} {w : Option Leg} {d : Bool}

/-! ### Temperature and slip -/

theorem reformLevel_watched (s : State) (r : HeatReason) : (s.reformLevel r).watched = s.watched := by
  unfold reformLevel
  dsimp only
  split
  · rfl
  · exact postNote_watched _ _

theorem setLevel_watched (s : State) (l : Leg) (n : Nat) : (s.setLevel l n).watched = s.watched := reformLevel_watched _ _

theorem levelFall_watched (s : State) (l : Leg) : (s.levelFall l).watched = s.watched := by
  unfold levelFall
  dsimp only
  split
  · split
    · exact setLevel_watched ..
    · rfl
  · rfl

@[simp] theorem thermalReport_watched (s : State) (l : Leg) (c : Int) : (s.thermalReport l c).watched = s.watched := by
  refine (levelFall_watched _ l).trans ?_
  split
  · exact setLevel_watched _ _ _
  · rfl

/-- Where no leg is watched, the windows. -/
theorem Keeps.slips {slips : Slip} (e : t.watched = { s.watched with slips := slips }) : Keeps none d s t :=
  .unwatched (verified := s.ssq.verified) (stance := s.scu.stance) (slips := slips) e

/-- R139: an entry of a level cause told gone. -/
theorem endSlip_kept (s : State) (l : Leg) : Keeps none d s (s.endSlip l) := by
  unfold endSlip
  split
  · exact ⟨fun _ => .refl _, fun _ sound he => sound (List.mem_of_mem_filter he), id, fun _ _ => id, fun _ _ => id,
      fun _ dormant => ⟨dormant, fun e he level => List.mem_filter.mpr ⟨he, by
        simp only [ne_eq, decide_not, Bool.not_eq_eq_eq_not, Bool.not_true, decide_eq_false_iff_not]
        rintro rfl
        cases level⟩⟩, nofun⟩
  · exact .refl ..

theorem recordDeviation_kept (s : State) (l : Leg) (n : Nat) : Keeps none d s (s.recordDeviation l n) := by
  unfold recordDeviation
  dsimp only
  exact Keeps.ite (fun _ => .slips (slips := { s.slm with legs := _ }) rfl)
    fun _ => .slips (slips := { s.slm with store := _, legs := _ }) rfl

theorem steadyReport_kept (s : State) (l : Leg) (r : Report) : Keeps none d s (s.steadyReport l r) :=
  Keeps.ite (fun _ => .slips (slips := { s.slm with legs := _ }) rfl) fun _ => .refl ..

theorem decideSlip_kept (s : State) (l : Leg) (n : Nat) : Keeps none d s (s.decideSlip l n) := by
  unfold decideSlip
  dsimp only
  refine Keeps.trans (.slips (slips := { s.slm with legs := s.slm.legs.modify l fun k => { k with lastThreshold := some s.slipThreshold } }) rfl)
    (Keeps.ite (fun _ => Keeps.ite (fun _ => .refl ..) fun _ => ?_) fun _ => endSlip_kept _ _)
  refine Keeps.trans ?_ (raiseCause_kept (by decide) _ l)
  exact .slips rfl

theorem unload_kept (s : State) (l : Leg) : Keeps none d s (s.unload l) := by
  unfold unload
  dsimp only
  refine Keeps.trans ?_ ((setVerified_kept _ l false).trans ((stanceChange_kept _).trans (raiseCause_kept (by decide) _ l)))
  exact .slips rfl

theorem slips_kept (s : State) (slips : Slip) : Keeps none d s { s with slm := slips } := .slips (slips := slips) rfl

theorem stanceReport_kept (s : State) (l : Leg) (r : Report) : Keeps none d s (s.stanceReport l r) := by
  unfold stanceReport
  dsimp only
  generalize (if r.force < s.zone.surface.unloadLimit then (s.slipOf l).lowForce + 1 else 0) = low
  refine Keeps.ite (fun _ => unload_kept s l) fun _ => ?_
  exact (slips_kept s { s.slm with legs := s.slm.legs.modify l fun k => { k with lowForce := low } }).trans
    (Keeps.ite (fun _ => (recordDeviation_kept _ l _).trans (decideSlip_kept _ l _)) fun _ => .refl ..)

theorem slipReport_kept (s : State) (l : Leg) (r : Report) : Keeps none d s (s.slipReport l r) := by
  unfold slipReport
  dsimp only
  refine Keeps.trans (Keeps.ite (fun _ => .refl ..) fun _ => steadyReport_kept s l r)
    (Keeps.ite (fun _ => stanceReport_kept _ l r) fun _ => .refl ..)

/-! ### Rising, lowering and first reports -/

/-- R8: every admitted leg's contact verified. -/
def verifyAll (s : State) : State := Leg.all.foldl (fun s k => if s.admitted k then s.setVerified k true else s) s

theorem riseReport_eq (s : State) (l : Leg) :
    s.riseReport l =
      if ({ s with pc.roseReported := s.pc.roseReported.set l true } : State).riseComplete then
        ((verifyAll { s with pc.roseReported := s.pc.roseReported.set l true, pc.riseTimer := none }).stanceUpdate.setBody
          .stand .done).bodySettled
            (verifyAll { s with pc.roseReported := s.pc.roseReported.set l true, pc.riseTimer := none }).stanceUpdate.pc.body
      else { s with pc.roseReported := s.pc.roseReported.set l true } := rfl

theorem verifyAll_kept (s : State) : Keeps none d s s.verifyAll :=
  foldl_kept (fun s k => Keeps.ite (fun _ => setVerified_kept s k true) fun _ => .refl ..) Leg.all s

theorem riseReport_kept (s : State) (l : Leg) : Keeps none d s (s.riseReport l) := by
  rw [riseReport_eq]
  refine Keeps.ite (fun _ => ?_) fun _ => .frame rfl
  have verified : Keeps none d s
      (verifyAll { s with pc.roseReported := s.pc.roseReported.set l true, pc.riseTimer := none }) :=
    Keeps.after (verifyAll_kept _) rfl
  exact verified.trans ((stanceUpdate_kept _).trans ((setBody_kept _ _ rfl).trans (bodySettled_kept _ _)))

/-- Where no body stands, the links and the listed OVERLOADs alone. -/
theorem Keeps.of_sounds (h : Sounds s t) (hb : s.pc.body.standing = false) : Keeps none false s t where
  links k := (h k).1
  sound k := (h k).2
  standing stands := by cases hb.symm.trans stands
  modes stands := by cases hb.symm.trans stands
  first stands := by cases hb.symm.trans stands
  dormant := nofun
  leg := nofun

theorem Keeps.sounds (h : Keeps none false s t) : Sounds s t := fun k => ⟨h.links k, h.sound k⟩

theorem endAllSlip_sublist (s : State) : s.endAllSlip.rxu.pending.Sublist s.rxu.pending := by
  have sub (legs : List Leg) (s : State) : (legs.foldl endSlip s).rxu.pending.Sublist s.rxu.pending := by
    induction legs generalizing s with
    | nil => exact .refl _
    | cons k rest ih => exact (ih _).trans (endSlip_sublist s k)
  exact sub Leg.all s

theorem Sounds.of_sublist (hl : t.llc = s.llc) (hp : t.rxu.pending.Sublist s.rxu.pending) : Sounds s t := fun k => by
  unfold OverloadSound
  simp only [link, watched, hl]
  exact ⟨.refl _, fun h he => h (hp.subset he)⟩

theorem setBody_sounds (s : State) (b : BodyState) (r : BodyReason) : Sounds s (s.setBody b r) := by
  refine .of_sublist (setBody_llc ..) ?_
  have noted {c : Prop} [Decidable c] (u : State) (n : Note) : (if c then u else u.postNote n).rxu = u.rxu := by
    split <;> simp
  have down (u : State) (hu : u.rxu = s.rxu) : u.endAllSlip.rxu.pending.Sublist s.rxu.pending := hu ▸ endAllSlip_sublist u
  unfold setBody
  dsimp only
  split
  · rw [noted]
    split
    · split <;> exact .refl _
    · exact down _ (by split <;> rfl)
  · exact .refl _

theorem limpAll_sounds (s : State) : Sounds s s.limpAll := by
  have limp (s : State) (l : Leg) : Sounds s ((s.setMode l .limp).setVerified l false) :=
    (setCmd_sounds s l .limp _ _).trans (.of_eq rfl rfl)
  have all (legs : List Leg) (s : State) : Sounds s (legs.foldl (fun s l => (s.setMode l .limp).setVerified l false) s) := by
    induction legs generalizing s with
    | nil => exact .refl s
    | cons l rest ih => exact (limp s l).trans (ih _)
  exact all Leg.all s

theorem endLowering_sounds (s : State) (r : BodyReason) : Sounds s (s.endLowering r) := by
  rw [endLowering_eq]
  have laid : Sounds s s.laidDown := by
    refine (limpAll_sounds s).trans ?_
    unfold laidDown
    generalize s.limpAll = q
    exact .of_eq rfl rfl
  exact laid.trans ((stanceUpdate_kept _).sounds.trans (setBody_sounds _ _ r))

theorem lowerReport_kept (hb : s.pc.body.standing = false) : Keeps none false s s.lowerReport := by
  unfold lowerReport
  exact Keeps.ite (fun _ => .of_sounds (endLowering_sounds s .done) hb) fun _ => .refl ..

theorem endSurvey_kept (s : State) : Keeps w d s s.endSurvey := Keeps.after (tipTest_kept _) rfl

/-- R15: no first report of the leg is awaited any more. -/
theorem reported_kept (s : State) (l : Leg) : Keeps w d s { s with pc.awaitFirst := s.pc.awaitFirst.set l false } := by
  refine ⟨fun _ => .refl _, fun _ => id, id, fun _ _ => id, fun _ k h => ?_, fun _ dormant => ⟨dormant, fun _ he _ => he⟩,
    fun k _ ground => ⟨{ ground with }, rfl, rfl, rfl, fun _ _ => id⟩⟩
  have awaits : s.pc.awaitFirst.get k = false := h
  simp only [watched, PerLeg.get_set]
  split
  · rfl
  · exact awaits

theorem firstReport_kept (s : State) (l : Leg) (r : Report) : Keeps none d s (s.firstReport l r) := by
  unfold firstReport
  extract_lets _ noted stood taken
  have stands (s : State) (p : Point) (c : Int) : Keeps none d s (s.setCmd l .stance p c) := setCmd_kept (by decide) ..
  have kept : Keeps none d s taken := by
    refine (reported_kept s l).trans (Keeps.ite (fun _ => ?_) fun _ => .refl ..)
    split
    · exact .refl ..
    · exact (stands ..).trans (stanceChange_kept _)
    · have verified : Keeps none d noted (if 60 ≤ r.force then stood.setVerified l true else stood) :=
        (stands ..).trans (Keeps.ite (fun _ => setVerified_kept _ l true) fun _ => .refl ..)
      exact verified.trans (stanceChange_kept _)
  exact Keeps.ite (fun _ => kept.trans (endSurvey_kept _)) fun _ => kept

/-- A change of one link that what is heard and the conditions do not see. -/
theorem Keeps.link (l : Leg) {f : Link → Link} (hf : ∀ k, LinkKept k (f k)) (ho : ∀ k, (f k).overload = k.overload) :
    Keeps w d s { s with llc := s.llc.modify l f } := by
  have sounds : Sounds s { s with llc := s.llc.modify l f } := .modify l hf ho
  exact ⟨fun k => (sounds k).1, fun k => (sounds k).2, id, fun _ _ => id, fun _ _ => id, fun _ dormant => ⟨dormant, fun _ he _ => he⟩,
    fun k _ ground => ⟨{ ground with
      link := (sounds k).1.link.trans ground.link, admitted := (sounds k).1.withdrawn.trans ground.admitted },
      rfl, rfl, rfl, fun _ _ => id⟩⟩

theorem calibReport_kept (s : State) (l : Leg) (r : Report) : Keeps w d s (s.calibReport l r) := by
  unfold calibReport
  split
  · exact Keeps.ite (fun _ => .link l (fun _ => ⟨rfl, id, id⟩) fun _ => rfl) fun _ => .refl ..
  · exact Keeps.ite (fun _ => .link l (fun _ => ⟨rfl, id, id⟩) fun _ => rfl) fun _ => .refl ..
  · exact .refl ..

/-! ### The operation that waits -/

/-- R156: the CROUCH that runs ends. -/
theorem crouched_kept (e : ReflexEvent) (hc : s.rxu.crouch ≠ .clear) : Keeps w d s (s.crouched e) := by
  have ended : (s.crouched e).watched = { s.watched with crouch := .crouched } := by
    unfold crouched
    rw [postNote_watched]
    rfl
  rw [Keeps, ended]
  refine ⟨fun _ => .refl _, fun _ => id, id, fun _ _ => id, fun _ _ => id, fun _ ⟨live, waits, rest⟩ => ⟨⟨live, waits, ?_⟩, fun _ he _ => he⟩,
    fun l _ ground => ⟨{ ground with depth := ?_ }, rfl, rfl, rfl, fun _ _ => id⟩⟩
  · exact rest.imp id fun ⟨_, aside⟩ => ⟨nofun, aside⟩
  · have room := ground.depth
    simp only [Watched.depth, watched, hc, false_and, if_false] at room
    simpa [Watched.depth, watched] using room

theorem waitingReport_loose (s : State) (l : Leg) (r : Report) (op : Waiting) :
    Keeps none false s (s.waitingReport l r op) := by
  cases op with
  | crouch => exact Keeps.ite (fun _ => .loose (by simp [crouched]) (by simp [crouched]) (by simp [crouched]) (by simp)) fun _ => .refl ..
  | lift => exact Keeps.ite (fun _ => stageDone_kept nofun) fun _ => .refl ..
  | swing => exact Keeps.ite (fun _ => beginPlace_kept l nofun) fun _ => .refl ..
  | placement => exact placeReport_kept l r nofun
  | settle => exact settleWaiters_kept s
  | nothing => exact .refl ..

/-- R165: whatever a report does to the body and the walk, the links and the conditions stay as they were. -/
theorem operationReport_loose (s : State) (l : Leg) (r : Report) : Keeps none false s (s.operationReport l r) := by
  unfold operationReport
  extract_lets waiting first calibrated
  have kept : Keeps none false s calibrated :=
    Keeps.trans (Keeps.ite (fun _ => firstReport_kept s l r) fun _ => .refl ..) (calibReport_kept _ l r)
  refine kept.trans ?_
  split
  · exact Keeps.ite (fun _ => riseReport_kept _ l) fun _ => .refl ..
  · rename_i lowering
    exact Keeps.ite (fun _ => lowerReport_kept (by rw [lowering]; rfl)) fun _ => .refl ..
  · exact waitingReport_loose _ l r _

end State
end Sys2Proof.Machine
end


section
/-! ## What a report leaves of its own leg -/

namespace Sys2Proof.Machine

namespace State

open Watched (Kept LinkKept LegKept Grounded Dormant Aside OverloadSound)

variable {s t u : State} {w : Option Leg} {d : Bool} {l : Leg} {r : Report}

/-! ### The operation that waits, of a body that stands -/

/-- R165: a leg that awaits no first report, under a body that stands. -/
theorem operationReport_eq (hb : s.pc.body.standing = true) (hf : s.pc.awaitFirst.get l = false) :
    s.operationReport l r = (s.calibReport l r).waitingReport l r (s.waitingOn l) := by
  unfold operationReport
  simp only [hf, Bool.false_eq_true, if_false, calibReport_pc]
  split
  · rename_i rising
    rw [rising] at hb
    cases hb
  · rename_i lowering
    rw [lowering] at hb
    cases hb
  · rfl

/-- What an operation finds once the calibration of the leg is served. -/
structure Calibrated (s t : State) : Prop where
  pc : t.pc = s.pc
  scu : t.scu = s.scu
  ssq : t.ssq = s.ssq
  pls : t.pls = s.pls
  fhq : t.fhq = s.fhq
  ztb : t.ztb = s.ztb
  slm : t.slm = s.slm
  rxu : t.rxu = s.rxu
  tdu : t.tdu = s.tdu
  hli : t.hli = s.hli

theorem calibReport_calibrated (s : State) (l : Leg) (r : Report) : Calibrated s (s.calibReport l r) := by
  unfold calibReport
  split
  · split <;> exact ⟨rfl, rfl, rfl, rfl, rfl, rfl, rfl, rfl, rfl, rfl⟩
  · split <;> exact ⟨rfl, rfl, rfl, rfl, rfl, rfl, rfl, rfl, rfl, rfl⟩
  · exact ⟨rfl, rfl, rfl, rfl, rfl, rfl, rfl, rfl, rfl, rfl⟩

/-- What the leg's report may be waited for by. -/
theorem waitingOn_cases (s : State) (l : Leg) :
    (s.waitingOn l = .crouch ∧ s.rxu.crouch = .running ∧ s.rxu.crouching.get l = true) ∨
    (s.waitingOn l = .lift ∧ s.rxu.liftTimer.isSome = true ∧ s.rxu.running.bind Running.leg = some l) ∨
    (s.waitingOn l = .swing ∧ s.ssq.phase = .swing ∧ s.ssq.stepping = some l) ∨
    (s.waitingOn l = .placement ∧ s.pls.placement = some l) ∨
    (s.waitingOn l = .settle ∧ s.inStance l = true) ∨ s.waitingOn l = .nothing := by
  unfold waitingOn
  split_ifs with _ crouch lift swing placement stance
  · simp
  · simp only [Bool.and_eq_true, beq_iff_eq] at crouch
    exact .inl ⟨rfl, crouch⟩
  · simp only [Bool.and_eq_true, beq_iff_eq] at lift
    exact .inr (.inl ⟨rfl, lift⟩)
  · simp only [Bool.and_eq_true, beq_iff_eq] at swing
    exact .inr (.inr (.inl ⟨rfl, swing⟩))
  · exact .inr (.inr (.inr (.inl ⟨rfl, by simpa using placement⟩)))
  · exact .inr (.inr (.inr (.inr (.inl ⟨rfl, stance⟩))))
  · simp

/-- R165: the operation of a report keeps the leg it comes from on the ground, and the Reflex Unit at rest. -/
theorem operationReport_kept (hb : s.pc.body.standing = true) (hf : s.pc.awaitFirst.get l = false) :
    Keeps (some l) d s (s.operationReport l r) := by
  rw [operationReport_eq hb hf]
  have served : Keeps (some l) d s (s.calibReport l r) := calibReport_kept s l r
  have calibrated := calibReport_calibrated s l r
  refine served.trans ?_
  generalize s.calibReport l r = q at calibrated ⊢
  have unlifted (hm : q.modeOf l ≠ .swing) (f : State → State) :
      (if r.swingDone && q.modeOf l == .swing then f q else q) = q := by
    rw [beq_false_of_ne hm, Bool.and_false]
    rfl
  have ground (hg : q.watched.Grounded l) : q.modeOf l ≠ .swing := by
    have stance : q.modeOf l = .stance := hg.mode
    rw [stance]
    decide
  have loose (op : Waiting) : Keeps none false q (q.waitingReport l r op) := waitingReport_loose q l r op
  rcases waitingOn_cases s l with ⟨e, running, -⟩ | ⟨e, -, lifts⟩ | ⟨e, swings, -⟩ | ⟨e, places⟩ | ⟨e, -⟩ | e <;> rw [e]
  · exact Keeps.ite (fun _ => crouched_kept _ (by rw [calibrated.rxu, running]; decide)) fun _ => .refl ..
  · rw [← calibrated.rxu] at lifts
    have still : ¬ q.watched.Dormant := by
      rintro ⟨-, -, idle | ⟨-, crouch, -⟩⟩
      · rw [show q.rxu.running = none from idle] at lifts
        cases lifts
      · rw [show q.rxu.running = some crouchReflex from crouch] at lifts
        cases lifts
    refine ((loose .lift).of_not_dormant still).of_grounded fun k hk hg => ?_
    cases hk
    rw [waitingReport, unlifted (ground hg) stageDone]
    exact .refl ..
  · have quiet : q.watched.Dormant → q.rxu.running = none := fun dormant => by
      refine dormant.2.2.resolve_right fun aside => ?_
      have idle : q.ssq.phase = .idle := aside.2.2.1
      rw [calibrated.ssq, swings] at idle
      cases idle
    have begins : Keeps none d q (q.waitingReport l r .swing) := by
      by_cases dormant : q.watched.Dormant
      · exact Keeps.ite (fun _ => beginPlace_kept l fun _ => quiet dormant) fun _ => .refl ..
      · exact (loose .swing).of_not_dormant dormant
    refine begins.of_grounded fun k hk hg => ?_
    cases hk
    rw [waitingReport, unlifted (ground hg) fun s => s.beginPlace l]
    exact .refl ..
  · rw [← calibrated.pls] at places
    have quiet : q.watched.Dormant → q.rxu.running = none := fun dormant => by
      refine dormant.2.2.resolve_right fun aside => ?_
      have nowhere : q.pls.placement = none := aside.2.2.2
      rw [places] at nowhere
      cases nowhere
    have begins : Keeps none d q (q.waitingReport l r .placement) := by
      by_cases dormant : q.watched.Dormant
      · exact placeReport_kept l r fun _ => quiet dormant
      · exact (loose .placement).of_not_dormant dormant
    refine begins.of_grounded fun k hk hg => ?_
    cases hk
    exact absurd places hg.placement
  · exact settleWaiters_kept q
  · exact .refl ..

/-! ### The parts of a report's taking -/

/-- R165: the report as the leg's last. -/
def lastReport (s : State) (l : Leg) (r : Report) : State :=
  { s with llc := s.llc.modify l fun k => { k with last := some r } }

/-- R165, steps 1 and 2: with the stance set and the temperature that it brings. -/
def heardOf (s : State) (l : Leg) (r : Report) : State := (s.lastReport l r).stanceChange.thermalReport l r.temp

/-- R165, step 4: the recomputation for a leg of the stance set. -/
def reckoned (s : State) (l : Leg) : State := if s.inStance l then s.recomputeTest else s

/-- R165: the report taken, but for its flags. -/
def actedOn (s : State) (l : Leg) (r : Report) : State := (((s.heardOf l r).slipReport l r).reckoned l).operationReport l r

theorem takeReport_eq (s : State) (l : Leg) (r : Report) :
    s.takeReport l r = ((s.actedOn l r).obstructFlag l r).overloadFlag l r := rfl

theorem heardOf_kept (s : State) (l : Leg) (r : Report) : Keeps w d (s.lastReport l r) (s.heardOf l r) :=
  (stanceChange_kept _).trans (.frame (thermalReport_watched ..))

theorem reckoned_kept (s : State) (l : Leg) : Keeps w d s (s.reckoned l) :=
  Keeps.ite (fun _ => recomputeTest_kept s) fun _ => .refl ..

/-- R165: the report taken keeps the links and the conditions. -/
theorem actedOn_loose (s : State) (l : Leg) (r : Report) : Keeps none false (s.lastReport l r) (s.actedOn l r) :=
  (heardOf_kept s l r).trans ((slipReport_kept _ l r).trans ((reckoned_kept _ l).trans (operationReport_loose _ l r)))

/-! ### The flags -/

theorem raiseCause_heard (s : State) (c : Cause) (l k : Leg) :
    ((s.raiseCause c l).link k).heard = (s.link k).heard ∧
      ((s.link k).obstruct = false → ((s.raiseCause c l).link k).obstruct = false) := by
  rcases raiseCause_cases s c l with ⟨-, e⟩ | ⟨-, -, -, e⟩ | ⟨at', e⟩ <;> rw [e]
  · unfold dropCause
    cases c
    case overload =>
      simp only [link, PerLeg.get_modify]
      split
      · exact ⟨rfl, id⟩
      · exact ⟨rfl, id⟩
    all_goals exact ⟨rfl, id⟩
  · unfold pendAdd
    split <;> exact ⟨rfl, id⟩
  · have kept := (take_kept (w := none) (d := false) (c := c) at').links k
    exact ⟨kept.heard, kept.obstruct⟩

theorem obstructFlag_heard (s : State) (l k : Leg) (r : Report) : ((s.obstructFlag l r).link k).heard = (s.link k).heard := by
  have modified (b : Bool) : (PerLeg.get (s.llc.modify l fun k => { k with obstruct := b }) k).heard = (s.link k).heard := by
    rw [PerLeg.get_modify]
    split <;> rfl
  unfold obstructFlag
  split
  · split
    · exact (raiseCause_heard _ _ _ _).1.trans (modified true)
    · rfl
  · exact modified false

theorem endOverload_heard (s : State) (l k : Leg) :
    ((s.endOverload l).link k).heard = (s.link k).heard ∧ ((s.endOverload l).link k).obstruct = (s.link k).obstruct := by
  unfold endOverload
  split
  · simp only [tellGone, link, PerLeg.get_modify]
    split <;> exact ⟨rfl, rfl⟩
  · exact ⟨rfl, rfl⟩

theorem overloadFlag_heard (s : State) (l k : Leg) (r : Report) :
    ((s.overloadFlag l r).link k).heard = (s.link k).heard ∧
      ((s.link k).obstruct = false → ((s.overloadFlag l r).link k).obstruct = false) := by
  have modified (b : Bool) :
      (PerLeg.get (s.llc.modify l fun k => { k with overload := b }) k).heard = (s.link k).heard ∧
        (PerLeg.get (s.llc.modify l fun k => { k with overload := b }) k).obstruct = (s.link k).obstruct := by
    rw [PerLeg.get_modify]
    split <;> exact ⟨rfl, rfl⟩
  unfold overloadFlag
  split
  · split
    · obtain ⟨heard, obstruct⟩ :=
        raiseCause_heard { s with llc := s.llc.modify l fun k => { k with overload := true } } .overload l k
      exact ⟨heard.trans (modified true).1, fun h => obstruct ((modified true).2.trans h)⟩
    · exact ⟨rfl, id⟩
  · exact ⟨(endOverload_heard s l k).1, (endOverload_heard s l k).2.trans⟩

theorem endExchange_heard (s : State) (l k : Leg) :
    ((s.endExchange l).link k).heard = (s.link k).heard ∧ ((s.endExchange l).link k).obstruct = (s.link k).obstruct ∧
      ((s.endExchange l).link k).overload = (s.link k).overload := by
  unfold endExchange
  dsimp only
  split
  · simp only [sendCommand, link, PerLeg.get_modify]
    split <;> exact ⟨rfl, rfl, rfl⟩
  · simp only [link, PerLeg.get_modify]
    split <;> exact ⟨rfl, rfl, rfl⟩

/-- The end of an exchange writes the links alone. -/
theorem endExchange_eq (s : State) (l : Leg) : s.endExchange l = { s with llc := (s.endExchange l).llc } := by
  unfold endExchange
  dsimp only
  split <;> rfl

/-! ### What a good report leaves -/

/-- R166, R167: the link that a good report finds or makes OK. -/
def sounded (k : Link) : Link := { k with moduleFault := false, link := .ok, miss := 0 }

/-- R166: the exchange ended by a good report on a link that is not LOST. -/
def linked (s : State) (l : Leg) : State := { s with llc := s.llc.set l (sounded (s.link l)) }

/-- R167: the third good report in a row of a LOST link, with its LEG note. -/
def recovered (s : State) (l : Leg) : State :=
  State.postNote { s with llc := s.llc.set l { sounded (s.link l) with good := 0 } } (.leg l .ok (s.link l).missTotal)

theorem set_modify {α : Type} (p : PerLeg α) (l : Leg) (f : α → α) (a : α) : (p.modify l f).set l a = p.set l a := by
  cases l <;> rfl

theorem exec_report_of_good {record : List Byte} (ha : (s.link l).awaiting = true) (hr : judgeReport record = .good r) :
    exec (.legReportArrival l record) s = .next ((s.goodReport l r).endExchange l) := by
  have unfolded : exec (.legReportArrival l record) s = execLegReportArrival l record s := rfl
  rw [unfolded, execLegReportArrival, ha, if_pos rfl, judgeRecord, hr]

/-- R166, R167: a good report by the state of the link. -/
theorem goodReport_eq (s : State) (l : Leg) (r : Report) :
    s.goodReport l r =
      match (s.link l).link with
      | .lost =>
        if (s.link l).good + 1 < 3 then
          { s with llc := s.llc.set l { s.link l with moduleFault := false, good := (s.link l).good + 1 } }
        else (s.recovered l).takeReport l r
      | _ => (s.linked l).takeReport l r := by
  have same : ({ s with llc := s.llc.modify l fun k => { k with moduleFault := false } } : State).link l =
      { s.link l with moduleFault := false } := PerLeg.get_modify_self ..
  unfold goodReport
  simp only [same, set_modify]
  rfl

theorem goodReport_of_not_lost (hl : (s.link l).link ≠ .lost) : s.goodReport l r = (s.linked l).takeReport l r := by
  rw [goodReport_eq]
  cases h : (s.link l).link
  case lost => exact absurd h hl
  all_goals rfl

theorem goodReport_of_third (hl : (s.link l).link = .lost) (hg : (s.link l).good = 2) :
    s.goodReport l r = (s.recovered l).takeReport l r := by
  rw [goodReport_eq, hl, hg]
  rfl

theorem linked_link (s : State) (l : Leg) : (s.linked l).link l = sounded (s.link l) := PerLeg.get_set_self ..

theorem lastReport_link (s : State) (l : Leg) (r : Report) :
    (s.lastReport l r).link l = { s.link l with last := some r } := PerLeg.get_modify_self ..

/-- R168, R169: whether a report raises or clears the conditions of its leg, the link stays as the report left it. -/
theorem takeReport_heard (s : State) (l : Leg) (r : Report) :
    ((s.takeReport l r).link l).heard = { s.link l with last := some r }.heard := by
  rw [takeReport_eq, (overloadFlag_heard _ l l r).1, obstructFlag_heard]
  exact ((actedOn_loose s l r).links l).heard.trans (congrArg Link.heard (lastReport_link s l r))

/-- R167: the third good report in a row brings a LOST link back. -/
theorem report_recovers {record : List Byte} (ha : (s.link l).awaiting = true) (hr : judgeReport record = .good r)
    (hl : (s.link l).link = .lost) (hg : (s.link l).good = 2) :
    ∃ t, exec (.legReportArrival l record) s = .next t ∧ (t.link l).link = .ok ∧ (t.link l).good = 0 ∧
      (t.link l).miss = 0 ∧ (t.link l).last = some r := by
  refine ⟨_, exec_report_of_good ha hr, ?_⟩
  rw [goodReport_of_third hl hg]
  have found : (s.recovered l).link l = { sounded (s.link l) with good := 0 } :=
    (congrArg (PerLeg.get · l) (postNote_llc _ _)).trans (PerLeg.get_set_self ..)
  have heard := (endExchange_heard ((s.recovered l).takeReport l r) l l).1.trans (takeReport_heard (s.recovered l) l r)
  rw [found] at heard
  exact ⟨(congrArg Link.link heard :), (congrArg Link.good heard :), (congrArg Link.miss heard :),
    (congrArg Link.last heard :)⟩

/-! ### The conditions that a report clears (R168, R169) -/

theorem report_clears_obstruct {record : List Byte} (ha : (s.link l).awaiting = true) (hr : judgeReport record = .good r)
    (hl : (s.link l).link ≠ .lost) (ho : r.obstruct = false) :
    ∃ t, exec (.legReportArrival l record) s = .next t ∧ (t.link l).obstruct = false := by
  refine ⟨_, exec_report_of_good ha hr, ?_⟩
  rw [(endExchange_heard _ l l).2.1, goodReport_of_not_lost hl, takeReport_eq]
  refine (overloadFlag_heard _ l l r).2 ?_
  unfold obstructFlag
  rw [ho, if_neg (by decide)]
  exact congrArg Link.obstruct (PerLeg.get_modify_self ..)

/-- R138, R139: the flags of a report leave a listed OVERLOAD its condition. -/
theorem obstructFlag_sound (s : State) (l k : Leg) (r : Report) (h : s.watched.OverloadSound k) :
    (s.obstructFlag l r).watched.OverloadSound k := by
  have marked (b : Bool) : ({ s with llc := s.llc.modify l fun k => { k with obstruct := b } } : State).watched.OverloadSound k :=
    fun he => by
      have holds : (s.link k).overload = true := h he
      simp only [watched, PerLeg.get_modify]
      split <;> exact holds
  unfold obstructFlag
  split
  · split
    · exact (raiseCause_kept (w := none) (d := false) (by decide) _ l).sound k (marked true)
    · exact h
  · exact marked false

theorem endOverload_clears (h : s.watched.OverloadSound l) :
    ((s.endOverload l).link l).overload = false ∧ ⟨.overload, l⟩ ∉ (s.endOverload l).rxu.pending := by
  unfold endOverload
  split
  · exact ⟨congrArg Link.overload (PerLeg.get_modify_self ..), tellGone_not_mem _ _ _⟩
  · rename_i clear
    exact ⟨by simpa using clear, fun he => clear (h he)⟩

theorem report_clears_overload {record : List Byte} (ha : (s.link l).awaiting = true) (hr : judgeReport record = .good r)
    (hl : (s.link l).link ≠ .lost) (ho : r.overload = false) (hp : PendingSound s) :
    ∃ t, exec (.legReportArrival l record) s = .next t ∧ (t.link l).overload = false ∧ ⟨.overload, l⟩ ∉ t.rxu.pending := by
  refine ⟨_, exec_report_of_good ha hr, ?_⟩
  have sound : ((s.linked l).lastReport l r).watched.OverloadSound l := fun he => by
    have holds : (s.link l).overload = true := (hp.2 _ he).2.1 rfl
    have same : (((s.linked l).lastReport l r).link l).overload = (s.link l).overload := by
      rw [lastReport_link, linked_link]
      rfl
    exact same.trans holds
  have acted := (actedOn_loose (s.linked l) l r).sound l sound
  have cleared := endOverload_clears (obstructFlag_sound _ l l r acted)
  have told : (s.linked l).takeReport l r = (((s.linked l).actedOn l r).obstructFlag l r).endOverload l := by
    rw [takeReport_eq]
    unfold overloadFlag
    rw [ho]
    rfl
  rw [(endExchange_heard _ l l).2.2, endExchange_eq, goodReport_of_not_lost hl, told]
  exact cleared

end State
end Sys2Proof.Machine
end


section
/-! ## Reports of a leg that nothing waits for -/

namespace Sys2Proof.Machine

namespace State

open Watched (Kept LinkKept LegKept Grounded Dormant Aside OverloadSound)

variable {s t u v : State} {w : Option Leg} {d : Bool} {l : Leg} {r : Report} {record : List Byte}

/-! ### The state that the report's operations find -/

/-- R165: the report as the last of a link that is OK. -/
def heardFrom (s : State) (l : Leg) (r : Report) : State := (s.linked l).lastReport l r

/-- R178: with its temperature. -/
def warmedBy (s : State) (l : Leg) (r : Report) : State := (s.heardFrom l r).thermalReport l r.temp

theorem heardFrom_eq (s : State) (l : Leg) (r : Report) :
    s.heardFrom l r = { s with llc := s.llc.set l { sounded (s.link l) with last := some r } } := by
  unfold heardFrom lastReport linked
  simp only [PerLeg.modify, PerLeg.get_set_self]
  congr 1
  cases l <;> rfl

@[simp] theorem warmedBy_pc (s : State) (l : Leg) (r : Report) : (s.warmedBy l r).pc = s.pc := thermalReport_pc ..
@[simp] theorem warmedBy_scu (s : State) (l : Leg) (r : Report) : (s.warmedBy l r).scu = s.scu := thermalReport_scu ..
@[simp] theorem warmedBy_ssq (s : State) (l : Leg) (r : Report) : (s.warmedBy l r).ssq = s.ssq := thermalReport_ssq ..
@[simp] theorem warmedBy_pls (s : State) (l : Leg) (r : Report) : (s.warmedBy l r).pls = s.pls := thermalReport_pls ..
@[simp] theorem warmedBy_fhq (s : State) (l : Leg) (r : Report) : (s.warmedBy l r).fhq = s.fhq := thermalReport_fhq ..
@[simp] theorem warmedBy_ztb (s : State) (l : Leg) (r : Report) : (s.warmedBy l r).ztb = s.ztb := thermalReport_ztb ..
@[simp] theorem warmedBy_slm (s : State) (l : Leg) (r : Report) : (s.warmedBy l r).slm = s.slm := thermalReport_slm ..
@[simp] theorem warmedBy_rxu (s : State) (l : Leg) (r : Report) : (s.warmedBy l r).rxu = s.rxu := thermalReport_rxu ..

theorem warmedBy_link (s : State) (l : Leg) (r : Report) :
    (s.warmedBy l r).link l = { sounded (s.link l) with last := some r } := by
  rw [warmedBy, link, thermalReport_llc, heardFrom_eq]
  exact PerLeg.get_set_self ..

theorem warmedBy_link_of_ne (s : State) {k l : Leg} (r : Report) (h : k ≠ l) : (s.warmedBy l r).link k = s.link k := by
  rw [warmedBy, link, thermalReport_llc, heardFrom_eq]
  exact PerLeg.get_set_of_ne _ _ h

theorem warmedBy_linkState (hl : (s.link l).link = .ok) (r : Report) (k : Leg) :
    ((s.warmedBy l r).link k).link = (s.link k).link := by
  by_cases hk : k = l
  · subst hk
    rw [warmedBy_link, hl]
    rfl
  · rw [warmedBy_link_of_ne s r hk]

theorem warmedBy_withdrawn (s : State) (l : Leg) (r : Report) (k : Leg) :
    ((s.warmedBy l r).link k).withdrawn = (s.link k).withdrawn := by
  by_cases hk : k = l
  · subst hk
    rw [warmedBy_link]
    rfl
  · rw [warmedBy_link_of_ne s r hk]

theorem warmedBy_overload (s : State) (l : Leg) (r : Report) (k : Leg) :
    ((s.warmedBy l r).link k).overload = (s.link k).overload := by
  by_cases hk : k = l
  · subst hk
    rw [warmedBy_link]
    rfl
  · rw [warmedBy_link_of_ne s r hk]

theorem warmedBy_zone (s : State) (l : Leg) (r : Report) : (s.warmedBy l r).zone = s.zone := zone_congr (warmedBy_ztb s l r)

/-- R27: a report on a link that is OK leaves the stance set as it was. -/
theorem warmedBy_derived (hl : (s.link l).link = .ok) (r : Report) : (s.warmedBy l r).stanceDerived = s.stanceDerived := by
  unfold stanceDerived modeOf cmdOf verifiedOf linkOk admitted
  simp only [warmedBy_ssq, warmedBy_linkState hl, warmedBy_withdrawn]

theorem heardOf_of_current (hl : (s.link l).link = .ok) (hset : StanceSetCurrent s) :
    (s.linked l).heardOf l r = s.warmedBy l r := by
  have current : (s.heardFrom l r).stanceDerived = (s.heardFrom l r).scu.stance := by
    have same : (s.heardFrom l r).stanceDerived = (s.warmedBy l r).stanceDerived :=
      stanceDerived_congr (by simp [warmedBy]) (by simp [warmedBy]) (by simp [warmedBy])
    rw [same, warmedBy_derived hl, stanceDerived_of_current hset]
    rfl
  have unchanged : (s.heardFrom l r).stanceChange = s.heardFrom l r := if_pos current
  exact congrArg (thermalReport · l r.temp) unchanged

/-! ### What a report of no trouble does -/

/-- R165: the report taken by the Slip Monitor, the SCU and the operation that waits. -/
def actedBy (s : State) (l : Leg) (r : Report) : State := (((s.warmedBy l r).slipReport l r).reckoned l).operationReport l r

theorem linked_actedOn (hl : (s.link l).link = .ok) (hset : StanceSetCurrent s) : (s.linked l).actedOn l r = s.actedBy l r := by
  unfold actedOn
  rw [heardOf_of_current hl hset]
  rfl

theorem actedBy_loose (s : State) (l : Leg) (r : Report) : Keeps none false (s.warmedBy l r) (s.actedBy l r) :=
  (slipReport_kept _ l r).trans ((reckoned_kept _ l).trans (operationReport_loose _ l r))

/-- R168, R169: a report that raises no flag, of a leg without an overload, changes no more than the links. -/
theorem acts_of_unflagged (awaits : (s.link l).awaiting = true) (judged : judgeReport record = .good r)
    (ok : (s.link l).link = .ok) (obstruct : r.obstruct = false) (overload : r.overload = false)
    (clear : (s.link l).overload = false) (current : StanceSetCurrent s) :
    ∃ links, exec (.legReportArrival l record) s = .next { s.actedBy l r with llc := links } := by
  have notLost : (s.link l).link ≠ .lost := by rw [ok]; decide
  have unmarked : (s.actedBy l r).obstructFlag l r =
      { s.actedBy l r with llc := (s.actedBy l r).llc.modify l fun k => { k with obstruct := false } } := by
    unfold obstructFlag
    rw [obstruct, if_neg (by decide)]
  have stays : ((s.actedBy l r).link l).overload = false :=
    ((actedBy_loose s l r).links l).overload ((warmedBy_overload s l r l).trans clear)
  have unloaded : ((s.actedBy l r).obstructFlag l r).overloadFlag l r = (s.actedBy l r).obstructFlag l r := by
    have same : (((s.actedBy l r).obstructFlag l r).link l).overload = false := by
      rw [unmarked]
      exact (congrArg Link.overload (PerLeg.get_modify_self ..)).trans stays
    unfold overloadFlag endOverload
    rw [overload, if_neg (by decide), same, if_neg (by decide)]
  refine ⟨(((s.actedBy l r).obstructFlag l r).endExchange l).llc, ?_⟩
  rw [exec_report_of_good awaits judged, goodReport_of_not_lost notLost, takeReport_eq, linked_actedOn ok current, unloaded]
  exact congrArg _ ((endExchange_eq _ l).trans (by rw [unmarked]))

theorem reports_acts (h : reports s l record r) :
    ∃ links, exec (.legReportArrival l record) s = .next { s.actedBy l r with llc := links } := by
  obtain ⟨awaits, judged, ok, -, -, obstruct, overload, clear, -, -, current⟩ := h
  exact acts_of_unflagged awaits judged ok obstruct overload clear current

end State
end Sys2Proof.Machine
end


section
/-! ## Reports of a leg of the stance set (R129 to R132) -/

namespace Sys2Proof.Machine

namespace State

open Watched (Kept LinkKept LegKept Grounded Dormant Aside OverloadSound)

variable {s t u v q : State} {d : Bool} {l : Leg} {r : Report} {record : List Byte}

/-! ### The leg that reports -/

theorem warmedBy_watched (s : State) (l : Leg) (r : Report) :
    (s.warmedBy l r).watched = { s.watched with links := (s.warmedBy l r).llc } := by
  simp [watched]

/-- The leg of the stance set that reports under a standing body, with nothing under way but the walk's own. -/
theorem warmedBy_grounded (h : reports s l record r) (hin : s.inStance l = true) (hb : s.pc.body.standing = true)
    (hr : s.rxu.running = none) (hs : s.rxu.stack = []) (hw : s.rxu.waiting = false) (hp : s.pls.placement = none) :
    (s.warmedBy l r).watched.Grounded l := by
  obtain ⟨-, -, ok, admits, -, -, -, -, free, clear, current⟩ := h
  obtain ⟨mode, verified, -, -⟩ := (current l).mp hin
  rw [warmedBy_watched]
  exact {
    standing := hb
    mode := mode
    link := (warmedBy_linkState ok r l).trans ok
    admitted := (warmedBy_withdrawn s l r l).trans admits
    tied := Eq.trans hin verified.symm
    free := free
    settled := hw
    depth := by
      simp only [Watched.depth, watched, hs, clear, List.length_nil, true_and, if_true]
      split <;> decide
    running := fun q hq => by cases hr.symm.trans hq
    stack := fun q hq => by
      have none : .recover q ∈ s.rxu.stack := hq
      rw [hs] at none
      cases none
    placement := fun he => by cases hp.symm.trans he }

/-- A change of the windows and the pending list leaves a leg on the ground. -/
theorem grounded_of_slips {slips : Slip} {pending : List Pending} (h : q.watched.Grounded l)
    (e : v.watched = { q.watched with slips := slips, pending := pending }) : v.watched.Grounded l := by
  rw [e]
  exact { h with }

/-- R165: what the Slip Monitor leaves of the leg, the rest of the report keeps. -/
theorem actedBy_keeps (hv : v.watched.Grounded l) (hf : v.pc.awaitFirst.get l = false)
    (h : Keeps (some l) d v ((s.warmedBy l r).slipReport l r)) : Keeps (some l) d v (s.actedBy l r) := by
  have found := h.trans (reckoned_kept _ l)
  exact found.trans (operationReport_kept (found.standing hv.standing) (found.first hv.standing l hf))

/-! ### The steady mark and the low-force count -/

/-- R128: the steady mark that the report may set. -/
def steadied (s : State) (l : Leg) (r : Report) : State := if (s.slipOf l).steady then s else s.steadyReport l r

/-- R132: the low-force count. -/
def counted (s : State) (l : Leg) (n : Nat) : State :=
  { s with slm.legs := s.slm.legs.modify l fun k => { k with lowForce := n } }

/-- R130, R131: the deviation of a steady leg recorded and judged. -/
def judgedSlip (s : State) (l : Leg) (r : Report) : State :=
  if (s.slipOf l).steady then (s.recordDeviation l (s.deviation l r)).decideSlip l (s.deviation l r) else s

theorem steadied_blocks (s : State) (l : Leg) (r : Report) : s.steadied l r = { s with slm := (s.steadied l r).slm } := by
  unfold steadied steadyReport
  dsimp only
  split
  · rfl
  · split <;> rfl

theorem slipReport_of_stance (hin : s.inStance l = true) (hb : s.pc.body.standing = true) :
    s.slipReport l r = (s.steadied l r).stanceReport l r := by
  have stands : ((s.steadied l r).inStance l && (s.steadied l r).pc.body.standing) = true := by
    rw [steadied_blocks, hb, Bool.and_true]
    exact hin
  exact if_pos stands

theorem stanceReport_eq (s : State) (l : Leg) (r : Report) :
    s.stanceReport l r =
      if r.force < s.zone.surface.unloadLimit then
        if 1 ≤ (s.slipOf l).lowForce then s.unload l else (s.counted l ((s.slipOf l).lowForce + 1)).judgedSlip l r
      else (s.counted l 0).judgedSlip l r := by
  unfold stanceReport
  dsimp only
  by_cases low : r.force < s.zone.surface.unloadLimit
  · simp only [if_pos low, show 2 ≤ (s.slipOf l).lowForce + 1 ↔ 1 ≤ (s.slipOf l).lowForce by omega]
    rfl
  · simp only [if_neg low]
    rfl

theorem steadied_lowForce (s : State) (l : Leg) (r : Report) :
    ((s.steadied l r).slipOf l).lowForce = (s.slipOf l).lowForce := by
  unfold steadied steadyReport
  dsimp only
  split
  · rfl
  · split
    · simp [slipOf]
    · rfl

theorem counted_slipOf (s : State) (l : Leg) (n : Nat) : (s.counted l n).slipOf l = { s.slipOf l with lowForce := n } :=
  PerLeg.get_modify_self ..

theorem recordDeviation_blocks (s : State) (l : Leg) (n : Nat) :
    s.recordDeviation l n = { s with slm := (s.recordDeviation l n).slm } := by
  unfold recordDeviation
  dsimp only
  split <;> rfl

/-- R130: what a deviation recorded leaves of its leg's window. -/
theorem recordDeviation_slipOf (s : State) (l : Leg) (n : Nat) :
    ((s.recordDeviation l n).slipOf l).newest = some n ∧
      ((s.recordDeviation l n).slipOf l).lowForce = (s.slipOf l).lowForce ∧
      ((s.recordDeviation l n).slipOf l).slip = (s.slipOf l).slip ∧
      ((s.recordDeviation l n).slipOf l).length = (s.slipOf l).length := by
  unfold recordDeviation
  dsimp only
  split <;> simp [slipOf]

/-- R130, R125: the slot that the deviation goes to. -/
theorem recordDeviation_store (s : State) {l : Leg} (n : Nat) (hl : (s.slipOf l).length ≠ 0) (hs : s.slm.store.length = 64)
    (hw : WindowSound (s.slipOf l)) : (s.recordDeviation l n).slm.store[(s.slipOf l).next]? = some n := by
  obtain ⟨-, fits, -, -, inside⟩ := hw
  have slot : (s.slipOf l).next < s.slm.store.length := by
    have := inside (Nat.pos_of_ne_zero hl)
    omega
  unfold recordDeviation
  simp only [if_neg hl]
  exact List.getElem?_set_self slot

/-- R131: the threshold of a decision on record. -/
def thresholdMarked (s : State) (l : Leg) : State :=
  { s with slm.legs := s.slm.legs.modify l fun k => { k with lastThreshold := some s.slipThreshold } }

/-- R131: the SLIP condition marked. -/
def slipMarked (s : State) (l : Leg) : State :=
  { s with slm.legs := s.slm.legs.modify l fun k => { k with slip := true } }

theorem decideSlip_eq (s : State) (l : Leg) (n : Nat) :
    s.decideSlip l n =
      if (s.thresholdMarked l).slipTest l n s.slipThreshold then
        if ((s.thresholdMarked l).slipOf l).slip then s.thresholdMarked l
        else ((s.thresholdMarked l).slipMarked l).raiseCause .slip l
      else (s.thresholdMarked l).endSlip l := rfl

theorem thresholdMarked_slipOf (s : State) (l : Leg) :
    (s.thresholdMarked l).slipOf l = { s.slipOf l with lastThreshold := some s.slipThreshold } :=
  PerLeg.get_modify_self ..

theorem slipMarked_slipOf (s : State) (l : Leg) : (s.slipMarked l).slipOf l = { s.slipOf l with slip := true } :=
  PerLeg.get_modify_self ..

/-- R131: the test of a deviation within the threshold fails. -/
theorem slipTest_within {n threshold : Nat} (h : n ≤ threshold) : s.slipTest l n threshold = false := by
  simp [slipTest, Nat.not_lt.mpr h]

/-- R131: with no window the deviation alone decides. -/
theorem slipTest_beyond {n threshold : Nat} (h : threshold < n) (hl : (s.slipOf l).length = 0) :
    s.slipTest l n threshold = true := by
  simp [slipTest, h, hl]

/-- R131: the SLIP condition of the leg ended, and nothing else of its window. -/
theorem endSlip_slipOf (s : State) (l : Leg) : (s.endSlip l).slipOf l = { s.slipOf l with slip := false } := by
  unfold endSlip
  split
  · exact PerLeg.get_modify_self ..
  · rename_i clear
    generalize s.slipOf l = k at clear
    cases k
    simp_all

theorem endSlip_blocks (s : State) (l : Leg) :
    s.endSlip l = { s with slm := (s.endSlip l).slm, rxu.pending := (s.endSlip l).rxu.pending } := by
  unfold endSlip
  split <;> rfl

theorem endSlip_store (s : State) (l : Leg) : (s.endSlip l).slm.store = s.slm.store := by
  unfold endSlip
  split <;> rfl

end State
end Sys2Proof.Machine
end


section
/-! ## What the Slip Monitor makes of a stance report -/

namespace Sys2Proof.Machine

namespace State

open Watched (Kept LinkKept LegKept Grounded Dormant Aside OverloadSound)

variable {s t u v q : State} {d : Bool} {l : Leg} {r : Report} {record : List Byte}

/-- R129: a leg of the stance set that reports no trouble under a standing body, with no reflex and no placement. -/
structure Reporting (s : State) (l : Leg) (record : List Byte) (r : Report) : Prop where
  reports : reports s l record r
  stance : s.inStance l = true
  standing : s.pc.body.standing = true
  running : s.rxu.running = none
  stack : s.rxu.stack = []
  waiting : s.rxu.waiting = false
  placement : s.pls.placement = none

namespace Reporting

theorem grounded (h : Reporting s l record r) : (s.warmedBy l r).watched.Grounded l :=
  warmedBy_grounded h.reports h.stance h.standing h.running h.stack h.waiting h.placement

theorem awaits (h : Reporting s l record r) : s.pc.awaitFirst.get l = false := by
  obtain ⟨-, -, -, -, awaits, -⟩ := h.reports
  exact awaits

theorem found_awaits (h : Reporting s l record r) : (s.warmedBy l r).pc.awaitFirst.get l = false := by
  rw [warmedBy_pc]
  exact h.awaits

/-- R140: with reflexes not live, the Reflex Unit is at rest. -/
theorem dormant (h : Reporting s l record r) (live : s.rxu.re1 = false) : (s.warmedBy l r).watched.Dormant := by
  rw [warmedBy_watched]
  exact ⟨live, h.waiting, .inl h.running⟩

theorem slipReport_eq (h : Reporting s l record r) :
    (s.warmedBy l r).slipReport l r = ((s.warmedBy l r).steadied l r).stanceReport l r :=
  slipReport_of_stance (by rw [inStance, warmedBy_scu]; exact h.stance) (by rw [warmedBy_pc]; exact h.standing)

/-- What the Slip Monitor leaves of the leg is what the report leaves of it. -/
theorem acts (h : Reporting s l record r) (hv : v.watched.Grounded l) (hf : v.pc.awaitFirst.get l = false)
    (kept : Keeps (some l) d v ((s.warmedBy l r).slipReport l r)) :
    ∃ t, exec (.legReportArrival l record) s = .next t ∧ t.verifiedOf l = v.verifiedOf l ∧ t.inStance l = v.verifiedOf l ∧
      (t.slipOf l).window = (v.slipOf l).window ∧ t.slm.store = v.slm.store ∧
      (d = true → v.watched.Dormant → (⟨.slip, l⟩ ∈ v.rxu.pending → ⟨.slip, l⟩ ∈ t.rxu.pending) ∧
        ∀ e ∈ v.rxu.pending, e.cause.level = false → e ∈ t.rxu.pending) := by
  obtain ⟨links, told⟩ := reports_acts h.reports
  have acted := actedBy_keeps hv hf kept
  obtain ⟨grounded, verified, window, store, slip⟩ := acted.leg l rfl hv
  have tied : (s.actedBy l r).inStance l = v.verifiedOf l := grounded.tied.trans verified
  exact ⟨_, told, verified, tied, window, store, fun hd dormant => ⟨slip hd dormant, (acted.dormant hd dormant).2⟩⟩

end Reporting

/-! ### Deviations -/

/-- R130, R131: the deviation and the threshold on record. -/
def recorded (s : State) (l : Leg) (n : Nat) : State := (s.recordDeviation l n).thresholdMarked l

theorem recorded_blocks (s : State) (l : Leg) (n : Nat) : s.recorded l n = { s with slm := (s.recorded l n).slm } := by
  unfold recorded
  rw [recordDeviation_blocks]
  rfl

theorem recordDeviation_threshold (s : State) (l : Leg) (n : Nat) : (s.recordDeviation l n).slipThreshold = s.slipThreshold := by
  rw [recordDeviation_blocks]
  rfl

/-- R130, R131: what stands in the leg's record. -/
theorem recorded_slipOf (s : State) (l : Leg) (n : Nat) :
    ((s.recorded l n).slipOf l).newest = some n ∧ ((s.recorded l n).slipOf l).lowForce = (s.slipOf l).lowForce ∧
      ((s.recorded l n).slipOf l).slip = (s.slipOf l).slip ∧ ((s.recorded l n).slipOf l).length = (s.slipOf l).length ∧
      ((s.recorded l n).slipOf l).lastThreshold = some s.slipThreshold := by
  obtain ⟨newest, lowForce, slip, length⟩ := recordDeviation_slipOf s l n
  unfold recorded
  rw [thresholdMarked_slipOf, recordDeviation_threshold]
  exact ⟨newest, lowForce, slip, length, rfl⟩

theorem judgedSlip_eq (hs : (s.slipOf l).steady = true) :
    s.judgedSlip l r =
      if (s.recorded l (s.deviation l r)).slipTest l (s.deviation l r) s.slipThreshold then
        if ((s.recorded l (s.deviation l r)).slipOf l).slip then s.recorded l (s.deviation l r)
        else ((s.recorded l (s.deviation l r)).slipMarked l).raiseCause .slip l
      else (s.recorded l (s.deviation l r)).endSlip l := by
  unfold judgedSlip
  rw [if_pos hs, decideSlip_eq, recordDeviation_threshold]
  rfl

theorem recorded_grounded (h : q.watched.Grounded l) (n : Nat) : (q.recorded l n).watched.Grounded l := by
  refine grounded_of_slips (slips := (q.recorded l n).slm) (pending := q.rxu.pending) h ?_
  rw [recorded_blocks]
  rfl

theorem endSlip_grounded (h : v.watched.Grounded l) : (v.endSlip l).watched.Grounded l := by
  refine grounded_of_slips (slips := (v.endSlip l).slm) (pending := (v.endSlip l).rxu.pending) h ?_
  rw [endSlip_blocks]
  rfl

/-- R129 to R131: whatever is judged of a leg on the ground leaves its low-force count, and the leg where it is. -/
theorem judgedSlip_lowForce (h : q.watched.Grounded l) :
    ∃ v, v.watched.Grounded l ∧ (v.slipOf l).lowForce = (q.slipOf l).lowForce ∧ v.pc = q.pc ∧
      Keeps (some l) false v (q.judgedSlip l r) := by
  by_cases steady : (q.slipOf l).steady = true
  · rw [judgedSlip_eq steady]
    generalize q.deviation l r = n
    obtain ⟨-, lowForce, -⟩ := recorded_slipOf q l n
    have pc : (q.recorded l n).pc = q.pc := by rw [recorded_blocks]
    have grounded := recorded_grounded h n
    generalize q.recorded l n = v at lowForce pc grounded ⊢
    split
    · split
      · exact ⟨v, grounded, lowForce, pc, .refl ..⟩
      · refine ⟨v.slipMarked l, ?_, ?_, pc, raiseCause_kept (by decide) _ l⟩
        · exact grounded_of_slips (slips := (v.slipMarked l).slm) (pending := v.rxu.pending) grounded rfl
        · rw [slipMarked_slipOf]
          exact lowForce
    · refine ⟨v.endSlip l, ?_, ?_, (endSlip_pc v l).trans pc, .refl ..⟩
      · exact endSlip_grounded grounded
      · rw [endSlip_slipOf]
        exact lowForce
  · unfold judgedSlip
    rw [if_neg steady]
    exact ⟨q, h, rfl, rfl, .refl ..⟩

theorem listed_mem (s : State) (c : Cause) (l : Leg) : ⟨c, l⟩ ∈ (s.listed c l).rxu.pending := by
  unfold listed
  dsimp only
  split
  · assumption
  · simp

/-- What the Slip Monitor finds of a leg that reports. -/
theorem warmedBy_slipOf (s : State) (l : Leg) (r : Report) : (s.warmedBy l r).slipOf l = s.slipOf l := by
  rw [slipOf, warmedBy_slm]
  rfl

theorem warmedBy_threshold (s : State) (l : Leg) (r : Report) : (s.warmedBy l r).slipThreshold = s.slipThreshold := by
  unfold slipThreshold
  rw [warmedBy_zone]

/-- R130: the deviation of the report from the commanded x and y. -/
def deviates (s : State) (l : Leg) (r : Report) : Nat :=
  min 255 ((r.x - (s.cmdOf l).target.x).natAbs + (r.y - (s.cmdOf l).target.y).natAbs)

theorem warmedBy_deviation (s : State) (l : Leg) (r : Report) : (s.warmedBy l r).deviation l r = s.deviates l r := by
  unfold deviation cmdOf
  rw [warmedBy_ssq]
  rfl

/-- R129, R130: of a steady leg under enough force the deviation is judged. -/
theorem Reporting.judges (h : Reporting s l record r) (hforce : s.zone.surface.unloadLimit ≤ r.force)
    (hsteady : (s.slipOf l).steady = true) :
    (s.warmedBy l r).slipReport l r = ((s.warmedBy l r).counted l 0).judgedSlip l r := by
  have same : (s.warmedBy l r).steadied l r = s.warmedBy l r := if_pos (by rw [warmedBy_slipOf, hsteady])
  rw [h.slipReport_eq, same, stanceReport_eq, warmedBy_zone, if_neg (by omega)]

/-- R131: a deviation within the threshold is recorded, and ends a SLIP condition. -/
theorem report_within_threshold (h : Reporting s l record r) (hforce : s.zone.surface.unloadLimit ≤ r.force)
    (hsteady : (s.slipOf l).steady = true) (hd : s.deviates l r ≤ s.slipThreshold) :
    ∃ t, exec (.legReportArrival l record) s = .next t ∧ (t.slipOf l).newest = some (s.deviates l r) ∧
      (t.slipOf l).lowForce = 0 ∧ (t.slipOf l).slip = false ∧ (t.slipOf l).lastThreshold = some s.slipThreshold ∧
      ((s.slipOf l).length ≠ 0 → s.slm.store.length = 64 → WindowSound (s.slipOf l) →
        t.slm.store[(s.slipOf l).next]? = some (s.deviates l r)) := by
  generalize hn : s.deviates l r = n at hd ⊢
  have slot : ((s.warmedBy l r).counted l 0).slipOf l = { s.slipOf l with lowForce := 0 } := by
    rw [counted_slipOf, warmedBy_slipOf]
  have deviation : ((s.warmedBy l r).counted l 0).deviation l r = n := (warmedBy_deviation s l r).trans hn
  have threshold : ((s.warmedBy l r).counted l 0).slipThreshold = s.slipThreshold := warmedBy_threshold s l r
  have taken : (s.warmedBy l r).slipReport l r = (((s.warmedBy l r).counted l 0).recorded l n).endSlip l := by
    rw [h.judges hforce hsteady, judgedSlip_eq (by rw [slot]; exact hsteady), deviation, threshold, slipTest_within hd]
    rfl
  have counted : ((s.warmedBy l r).counted l 0).watched.Grounded l :=
    grounded_of_slips (slips := ((s.warmedBy l r).counted l 0).slm) (pending := (s.warmedBy l r).rxu.pending) h.grounded rfl
  obtain ⟨t, told, -, -, window, store, -⟩ := h.acts (d := false) (endSlip_grounded (recorded_grounded counted n))
    (by rw [endSlip_pc, recorded_blocks]; exact h.found_awaits) (by rw [taken]; exact .refl ..)
  obtain ⟨newest, lowForce, -, -, last⟩ := recorded_slipOf ((s.warmedBy l r).counted l 0) l n
  rw [endSlip_slipOf] at window
  rw [endSlip_store] at store
  refine ⟨t, told, ?_, ?_, ?_, ?_, fun hl hs hw => ?_⟩
  · exact (congrArg SlipLeg.newest window :).trans newest
  · exact ((congrArg SlipLeg.lowForce window :).trans lowForce).trans (by rw [slot])
  · exact (congrArg SlipLeg.slip window :)
  · exact ((congrArg SlipLeg.lastThreshold window :).trans last).trans (by rw [threshold])
  · have written := recordDeviation_store ((s.warmedBy l r).counted l 0) (l := l) n (by rw [slot]; exact hl)
      (by rw [← hs, ← warmedBy_slm s l r]; rfl) (by rw [slot]; exact hw)
    rw [slot] at written
    rw [store]
    exact written

/-- R131: a deviation beyond the threshold of a leg without a window raises SLIP. -/
theorem report_beyond_threshold (h : Reporting s l record r) (hforce : s.zone.surface.unloadLimit ≤ r.force)
    (hsteady : (s.slipOf l).steady = true) (hd : s.slipThreshold < s.deviates l r) (hl : (s.slipOf l).length = 0)
    (hslip : (s.slipOf l).slip = false) (live : s.rxu.re1 = false) :
    ∃ t, exec (.legReportArrival l record) s = .next t ∧ (t.slipOf l).slip = true ∧ ⟨.slip, l⟩ ∈ t.rxu.pending := by
  generalize hn : s.deviates l r = n at hd
  have slot : ((s.warmedBy l r).counted l 0).slipOf l = { s.slipOf l with lowForce := 0 } := by
    rw [counted_slipOf, warmedBy_slipOf]
  have deviation : ((s.warmedBy l r).counted l 0).deviation l r = n := (warmedBy_deviation s l r).trans hn
  have threshold : ((s.warmedBy l r).counted l 0).slipThreshold = s.slipThreshold := warmedBy_threshold s l r
  have counted : ((s.warmedBy l r).counted l 0).watched.Grounded l :=
    grounded_of_slips (slips := ((s.warmedBy l r).counted l 0).slm) (pending := (s.warmedBy l r).rxu.pending) h.grounded rfl
  have grounded := recorded_grounded counted n
  have blocks := recorded_blocks ((s.warmedBy l r).counted l 0) l n
  obtain ⟨-, -, slip, length, -⟩ := recorded_slipOf ((s.warmedBy l r).counted l 0) l n
  rw [slot] at slip length
  have taken : (s.warmedBy l r).slipReport l r =
      ((((s.warmedBy l r).counted l 0).recorded l n).slipMarked l).raiseCause .slip l := by
    rw [h.judges hforce hsteady, judgedSlip_eq (by rw [slot]; exact hsteady), deviation, threshold,
      slipTest_beyond hd (length.trans hl), if_pos rfl, if_neg (by rw [slip]; simpa using hslip)]
  generalize ((s.warmedBy l r).counted l 0).recorded l n = u at grounded blocks taken
  have marked : (u.slipMarked l).watched.Grounded l :=
    grounded_of_slips (slips := (u.slipMarked l).slm) (pending := u.rxu.pending) grounded rfl
  have rxu : u.rxu = s.rxu := by
    rw [blocks, ← warmedBy_rxu s l r]
    rfl
  obtain ⟨-, raised⟩ := raiseCause_of_not_live (s := u.slipMarked l) .slip (l := l) marked.standing marked.admitted
    ((congrArg Reflexes.re1 rxu).trans live)
  have onList : ((u.slipMarked l).listed .slip l).watched.Grounded l :=
    grounded_of_slips (slips := (u.slipMarked l).slm) (pending := ((u.slipMarked l).listed .slip l).rxu.pending) marked rfl
  have dormant : ((u.slipMarked l).listed .slip l).watched.Dormant := by
    refine ⟨(congrArg Reflexes.re1 rxu).trans live, (congrArg Reflexes.waiting rxu).trans h.waiting,
      .inl ((congrArg Reflexes.running rxu).trans h.running)⟩
  obtain ⟨t, told, -, -, window, -, kept⟩ := h.acts (d := true) onList
    (by rw [listed, slipMarked, blocks]; exact h.found_awaits) (by rw [taken, raised]; exact .refl ..)
  refine ⟨t, told, ?_, (kept rfl dormant).1 (listed_mem _ _ _)⟩
  have slot : ((u.slipMarked l).listed .slip l).slipOf l = { u.slipOf l with slip := true } := slipMarked_slipOf u l
  rw [slot] at window
  exact (congrArg SlipLeg.slip window :)

/-- R132: a report of low force counts once. -/
theorem report_of_low_force (h : Reporting s l record r) (hforce : r.force < s.zone.surface.unloadLimit)
    (hlow : (s.slipOf l).lowForce = 0) :
    ∃ t, exec (.legReportArrival l record) s = .next t ∧ (t.slipOf l).lowForce = 1 := by
  have found := steadied_blocks (s.warmedBy l r) l r
  have low : (((s.warmedBy l r).steadied l r).slipOf l).lowForce = 0 := by
    rw [steadied_lowForce, warmedBy_slipOf, hlow]
  have grounded : ((s.warmedBy l r).steadied l r).watched.Grounded l :=
    grounded_of_slips (slips := ((s.warmedBy l r).steadied l r).slm) (pending := (s.warmedBy l r).rxu.pending) h.grounded
      (by rw [found]; rfl)
  have taken : (s.warmedBy l r).slipReport l r = (((s.warmedBy l r).steadied l r).counted l 1).judgedSlip l r := by
    have zone : ((s.warmedBy l r).steadied l r).zone = s.zone := by
      rw [found, ← warmedBy_zone s l r]
      rfl
    rw [h.slipReport_eq, stanceReport_eq, zone, if_pos hforce, low, if_neg (by decide)]
  have pc : ((s.warmedBy l r).steadied l r).pc = s.pc := by rw [found, warmedBy_pc]
  generalize (s.warmedBy l r).steadied l r = u at grounded taken pc
  have counted : (u.counted l 1).watched.Grounded l :=
    grounded_of_slips (slips := (u.counted l 1).slm) (pending := u.rxu.pending) grounded rfl
  obtain ⟨v, vGrounded, lowForce, vpc, kept⟩ := judgedSlip_lowForce (r := r) counted
  obtain ⟨t, told, -, -, window, -, -⟩ := h.acts (d := false) vGrounded
    ((congrArg (fun p : Posture => p.awaitFirst.get l) (vpc.trans pc)).trans h.awaits) (by rw [taken]; exact kept)
  refine ⟨t, told, (congrArg SlipLeg.lowForce window :).trans (lowForce.trans ?_)⟩
  rw [counted_slipOf]

/-! ### UNLOAD -/

theorem slmLeave_fill (s : State) (l : Leg) : ((s.slmLeave l).slipOf l).fill = 0 := by
  unfold slmLeave
  rw [endSlip_slipOf]
  simp [slipOf, emptyWindow]

/-- R133: a leg that leaves the stance set has an empty window. -/
theorem slmLeaves_window {legs : List Leg} (hl : l ∈ legs) :
    ((legs.foldl slmLeave s).slipOf l).fill = 0 ∧ ((legs.foldl slmLeave s).slipOf l).lowForce = 0 := by
  induction legs generalizing s with
  | nil => cases hl
  | cons k rest ih =>
    by_cases again : l ∈ rest
    · exact ih again
    · obtain rfl := (List.mem_cons.mp hl).resolve_right again
      rw [List.foldl_cons, slmLeaves_slipOf again]
      exact ⟨slmLeave_fill s l, (slmLeave_lowForce s l l).trans (if_pos rfl)⟩

/-- R132: the leg's contact no longer verified, its low-force count 0. -/
def unverified (s : State) (l : Leg) : State := (s.counted l 0).setVerified l false

theorem unload_eq (s : State) (l : Leg) : s.unload l = (s.unverified l).stanceChange.raiseCause .unload l := rfl

theorem unverified_derived (s : State) (l : Leg) : (s.unverified l).stanceDerived.get l = false := by
  have verified : (s.unverified l).verifiedOf l = false := setVerified_verifiedOf_self ..
  simp [stanceDerived, verified]

/-- R132, R27: a leg of the stance set leaves it. -/
theorem unverified_stanceChange (h : s.inStance l = true) :
    (s.unverified l).stanceChange = (s.unverified l).restanced.tipTest.settleWaiters := by
  have stale : (s.unverified l).stanceDerived ≠ (s.unverified l).scu.stance := fun e => by
    have leaves := unverified_derived s l
    rw [e] at leaves
    cases h.symm.trans leaves
  unfold stanceChange
  rw [if_neg stale, stanceUpdate]
  rcases stanceUpdateWith_cases tipTest (s.unverified l) with ⟨e, -⟩ | ⟨-, e⟩
  · exact absurd e stale
  · rw [e]

/-- R132, R27: it stays on the ground, out of the stance set. -/
theorem unverified_restanced (h : s.watched.Grounded l) (hin : s.inStance l = true) :
    (s.unverified l).restanced.watched.Grounded l ∧ (s.unverified l).restanced.verifiedOf l = false ∧
      ((s.unverified l).restanced.slipOf l).fill = 0 ∧ ((s.unverified l).restanced.slipOf l).lowForce = 0 := by
  have verified : (s.unverified l).verifiedOf l = false := setVerified_verifiedOf_self ..
  have leaves := unverified_derived s l
  have left : l ∈ Leg.all.filter fun k => (s.unverified l).inStance k && !(s.unverified l).stanceDerived.get k := by
    have stood : (s.unverified l).inStance l = true := hin
    rw [List.mem_filter, leaves, stood]
    exact ⟨Leg.mem_all l, rfl⟩
  obtain ⟨fill, lowForce⟩ := slmLeaves_window
    (s := { s.unverified l with scu.stance := (s.unverified l).stanceDerived }) left
  refine ⟨?_, ?_, fill, lowForce⟩
  · rw [restanced_watched]
    exact { h with tied := leaves.trans verified.symm }
  · rw [verifiedOf, restanced_ssq]
    exact verified

/-- R132: the second report of low force in a row raises UNLOAD. -/
theorem report_of_low_force_again (h : Reporting s l record r) (hforce : r.force < s.zone.surface.unloadLimit)
    (hlow : (s.slipOf l).lowForce = 1) (live : s.rxu.re1 = false) :
    ∃ t, exec (.legReportArrival l record) s = .next t ∧ t.verifiedOf l = false ∧ t.inStance l = false ∧
      (t.slipOf l).lowForce = 0 ∧ (t.slipOf l).fill = 0 ∧ ⟨.unload, l⟩ ∈ t.rxu.pending := by
  have found := steadied_blocks (s.warmedBy l r) l r
  have low : (((s.warmedBy l r).steadied l r).slipOf l).lowForce = 1 := by
    rw [steadied_lowForce, warmedBy_slipOf, hlow]
  have grounded : ((s.warmedBy l r).steadied l r).watched.Grounded l :=
    grounded_of_slips (slips := ((s.warmedBy l r).steadied l r).slm) (pending := (s.warmedBy l r).rxu.pending) h.grounded
      (by rw [found]; rfl)
  have stands : ((s.warmedBy l r).steadied l r).inStance l = true := by
    rw [found]
    exact (congrArg (fun x : Support => x.stance.get l) (warmedBy_scu s l r)).trans h.stance
  have dormant : ((s.warmedBy l r).steadied l r).watched.Dormant := by
    rw [found]
    exact h.dormant live
  have awaits : ((s.warmedBy l r).steadied l r).pc.awaitFirst.get l = false := by
    rw [found]
    exact h.found_awaits
  have taken : (s.warmedBy l r).slipReport l r = ((s.warmedBy l r).steadied l r).unload l := by
    have zone : ((s.warmedBy l r).steadied l r).zone = s.zone := by
      rw [found, ← warmedBy_zone s l r]
      rfl
    rw [h.slipReport_eq, stanceReport_eq, zone, if_pos hforce, low, if_pos (by decide)]
  generalize (s.warmedBy l r).steadied l r = u at grounded stands dormant awaits taken
  rw [unload_eq, unverified_stanceChange stands] at taken
  obtain ⟨out, verified, fill, lowForce⟩ := unverified_restanced grounded stands
  have still : (u.unverified l).restanced.watched.Dormant := by
    rw [restanced_watched]
    exact dormant
  have pc : (u.unverified l).restanced.pc = u.pc := restanced_pc _
  generalize (u.unverified l).restanced = x at taken out verified fill lowForce still pc
  have kept : Keeps (some l) true x x.tipTest.settleWaiters := (tipTest_kept x).trans (settleWaiters_kept _)
  obtain ⟨yOut, yVerified, yWindow, -, -⟩ := kept.leg l rfl out
  have yStill := (kept.dormant rfl still).1
  have yAwaits := kept.first out.standing l (by
    rw [watched, pc]
    exact awaits)
  generalize x.tipTest.settleWaiters = y at taken yOut yVerified yWindow yStill yAwaits
  obtain ⟨-, raised⟩ := raiseCause_of_not_live (s := y) .unload (l := l) yOut.standing yOut.admitted yStill.1
  have onList : (y.listed .unload l).watched.Grounded l :=
    grounded_of_slips (slips := y.slm) (pending := (y.listed .unload l).rxu.pending) yOut rfl
  obtain ⟨t, told, tVerified, tStance, window, -, listed⟩ := h.acts (d := true) onList yAwaits
    (by rw [taken, raised]; exact .refl ..)
  have unverified : (y.listed .unload l).verifiedOf l = false := yVerified.trans verified
  have sameWindow : (t.slipOf l).window = (x.slipOf l).window := window.trans yWindow
  exact ⟨t, told, tVerified.trans unverified, tStance.trans unverified,
    (congrArg SlipLeg.lowForce sameWindow :).trans lowForce, (congrArg SlipLeg.fill sameWindow :).trans fill,
    (listed rfl yStill).2 _ (listed_mem _ _ _) rfl⟩

end State
end Sys2Proof.Machine
end


section
/-! ## Flags, lost links, module faults, and the judgement of records -/

namespace Sys2Proof.Machine

/-! ### The judgement of a record (R164) -/

theorem Report.inRanges_iff {r : Report} : r.inRanges = true ↔
    -2000 ≤ r.x ∧ r.x ≤ 2000 ∧ -2000 ≤ r.y ∧ r.y ≤ 2000 ∧ -2000 ≤ r.z ∧ r.z ≤ 2000 ∧ 0 ≤ r.force ∧ r.force ≤ 2000 ∧
      -40 ≤ r.temp ∧ r.temp ≤ 150 ∧ r.suggested ≤ 7 := by
  simp [Report.inRanges, inRange, and_assoc]

theorem reportOfBytes_of_length {record : List Byte} (h : record.length ≠ 13) : reportOfBytes record = none := by
  unfold reportOfBytes
  split
  · exact absurd rfl h
  · rfl

theorem judgeReport_of_length {record : List Byte} (h : record.length ≠ 13) : judgeReport record = .miss := by
  unfold judgeReport
  rw [reportOfBytes_of_length h]

/-- R164: a record whose check is sound. -/
theorem judgeReport_of_sound {record : List Byte} {r : Report} (h : reportOfBytes record = some r) (sum : byteSum record = 0) :
    judgeReport record = if r.fault then .moduleFault else if r.inRanges then .good r else .miss := by
  unfold judgeReport
  rw [h]
  exact if_neg (not_not.mpr sum)

namespace State

open Watched (Kept LinkKept LegKept Grounded Dormant Aside OverloadSound)

variable {s t u v q : State} {w : Option Leg} {d : Bool} {l : Leg} {r : Report} {record : List Byte}

/-! ### Lost links and module faults -/

/-- R163: the end of an exchange for which nothing waits. -/
theorem endExchange_of_idle (h : (s.link l).sendWaiting = false) :
    s.endExchange l = { s with llc := s.llc.modify l fun k => { k with awaiting := false, report := none } } := by
  have idle : (({ s with llc := s.llc.modify l fun k => { k with awaiting := false, report := none } } : State).link
      l).sendWaiting = false := (congrArg Link.sendWaiting (PerLeg.get_modify_self ..)).trans h
  unfold endExchange
  dsimp only
  rw [idle, if_neg (by decide)]

theorem modify_set {α : Type} (p : PerLeg α) (l : Leg) (f : α → α) (a : α) : (p.set l a).modify l f = p.set l (f a) := by
  cases l <;> rfl

theorem endExchange_of_set {k : Link} (h : k.sendWaiting = false) :
    ({ s with llc := s.llc.set l k } : State).endExchange l =
      { s with llc := s.llc.set l { k with awaiting := false, report := none } } := by
  have found : ({ s with llc := s.llc.set l k } : State).link l = k := PerLeg.get_set_self ..
  rw [endExchange_of_idle (by rw [found]; exact h)]
  simp only [modify_set]

/-- R167: a good report of a LOST link that is not yet the third counts. -/
theorem report_of_lost (ha : (s.link l).awaiting = true) (hr : judgeReport record = .good r) (hl : (s.link l).link = .lost)
    (hg : (s.link l).good < 2) (hw : (s.link l).sendWaiting = false) :
    exec (.legReportArrival l record) s =
      .next { s with llc := s.llc.modify l fun k => { k with awaiting := false, report := none, good := k.good + 1,
                                                             moduleFault := false } } := by
  rw [exec_report_of_good ha hr, goodReport_eq, hl]
  simp only [show (s.link l).good + 1 < 3 by omega, if_true]
  rw [endExchange_of_set (by exact hw)]
  rfl

theorem exec_report_of_fault (ha : (s.link l).awaiting = true) (hr : judgeReport record = .moduleFault) :
    exec (.legReportArrival l record) s = .next ((s.faultReport l).endExchange l) := by
  have unfolded : exec (.legReportArrival l record) s = execLegReportArrival l record s := rfl
  rw [unfolded, execLegReportArrival, ha, if_pos rfl, judgeRecord, hr]

/-- R164: a MODULE_FAULT that was told is a miss. -/
theorem report_of_told_fault (ha : (s.link l).awaiting = true) (hr : judgeReport record = .moduleFault)
    (hf : (s.link l).moduleFault = true) : exec (.legReportArrival l record) s = exec (.legReportTimeout l) s := by
  have timeout : exec (.legReportTimeout l) s = execLegReportTimeout l s := rfl
  rw [exec_report_of_fault ha hr, timeout, execLegReportTimeout, ha, if_pos rfl, faultReport, hf, if_pos rfl]

/-- R164: a miss that is not the third of a link that is not LOST. -/
theorem missReport_of_few (hl : (s.link l).link ≠ .lost) (hm : (s.link l).miss < 2) :
    s.missReport l = { s with llc := s.llc.set l { s.link l with
      missTotal := min 65535 ((s.link l).missTotal + 1), miss := (s.link l).miss + 1 } } := by
  unfold missReport
  simp only [countUp, show ¬ 3 ≤ (s.link l).miss + 1 by omega, if_false]

/-- R164: the first MODULE_FAULT is told, and counts as a miss. -/
theorem report_of_fault (ha : (s.link l).awaiting = true) (hr : judgeReport record = .moduleFault)
    (hf : (s.link l).moduleFault = false) (hl : (s.link l).link ≠ .lost) (hm : (s.link l).miss < 2)
    (hw : (s.link l).sendWaiting = false) :
    exec (.legReportArrival l record) s =
      .next { s with llc := s.llc.modify l fun k => { k with awaiting := false, report := none, moduleFault := true,
                                                             miss := k.miss + 1,
                                                             missTotal := min 65535 ((s.link l).missTotal + 1) },
                     hli := (s.postNote (.leg l .moduleFault (min 65535 ((s.link l).missTotal + 1)))).hli } := by
  have told : s.faultReport l = State.missReport { s with
      llc := s.llc.modify l fun k => { k with moduleFault := true },
      hli := (s.postNote (.leg l .moduleFault (min 65535 ((s.link l).missTotal + 1)))).hli } l := by
    unfold faultReport
    rw [hf, if_neg (by decide)]
    exact congrArg (missReport · l) (postNote_eq_of_hli (t := { s with
      llc := s.llc.modify l fun k => { k with moduleFault := true } }) _ rfl)
  have found : (PerLeg.get (s.llc.modify l fun k => { k with moduleFault := true }) l) = { s.link l with moduleFault := true } :=
    PerLeg.get_modify_self ..
  rw [exec_report_of_fault ha hr, told, missReport_of_few]
  · rw [endExchange_of_set]
    · simp only [link, found, set_modify]
      rfl
    · simp only [link, found]
      exact hw
  · simp only [link, found]
    exact hl
  · simp only [link, found]
    exact hm

/-! ### The OBSTRUCT and OVERLOAD flags (R168, R169) -/

theorem Keeps.forget (h : Keeps w d s t) : Keeps none d s t := { h with leg := nofun }

/-- R165: a report under a body that stands keeps the Reflex Unit at rest. -/
theorem actedBy_kept (hb : s.pc.body.standing = true) (hf : s.pc.awaitFirst.get l = false) :
    Keeps none d (s.warmedBy l r) (s.actedBy l r) := by
  have found : Keeps none d (s.warmedBy l r) (((s.warmedBy l r).slipReport l r).reckoned l) :=
    (slipReport_kept _ l r).trans (reckoned_kept _ l)
  have stands : (s.warmedBy l r).watched.standing = true := by rw [warmedBy_watched]; exact hb
  have awaits : (s.warmedBy l r).watched.awaitFirst.get l = false := by rw [warmedBy_watched]; exact hf
  exact found.trans (operationReport_kept (found.standing stands) (found.first stands l awaits)).forget

/-- R163: a good report under an OK link, whose flags are judged last. -/
theorem report_flags (ha : (s.link l).awaiting = true) (hr : judgeReport record = .good r) (hl : (s.link l).link = .ok)
    (hset : StanceSetCurrent s) :
    exec (.legReportArrival l record) s = .next ((((s.actedBy l r).obstructFlag l r).overloadFlag l r).endExchange l) := by
  rw [exec_report_of_good ha hr, goodReport_of_not_lost (by rw [hl]; decide), takeReport_eq, linked_actedOn hl hset]

/-- R168: the OBSTRUCT flag where no reflex is live writes the mark and the list alone. -/
theorem obstructFlag_of_not_live (hb : s.pc.body.standing = true) (ha : (s.link l).withdrawn = false)
    (live : s.rxu.re1 = false) :
    ∃ (pending : List Pending) (marked : Bool → Bool), s.obstructFlag l r =
      { s with rxu.pending := pending, llc := s.llc.modify l fun k => { k with obstruct := marked k.obstruct } } := by
  unfold obstructFlag
  split
  · split
    · obtain ⟨-, raised⟩ := raiseCause_of_not_live
        (s := { s with llc := s.llc.modify l fun k => { k with obstruct := true } }) .obstruct (l := l) hb
        ((congrArg Link.withdrawn (PerLeg.get_modify_self ..)).trans ha) live
      exact ⟨_, fun _ => true, raised⟩
    · refine ⟨s.rxu.pending, id, ?_⟩
      have same : (s.llc.modify l fun k => { k with obstruct := id k.obstruct }) = s.llc := by cases l <;> rfl
      rw [same]
  · exact ⟨s.rxu.pending, fun _ => false, rfl⟩

/-- R169: a report of an overload, with reflexes not live. -/
theorem report_raises_overload (ha : (s.link l).awaiting = true) (hr : judgeReport record = .good r)
    (hl : (s.link l).link = .ok) (hb : s.pc.body.standing = true) (hwd : (s.link l).withdrawn = false)
    (hf : s.pc.awaitFirst.get l = false) (hset : StanceSetCurrent s) (live : s.rxu.re1 = false)
    (hrun : s.rxu.running = none) (hwait : s.rxu.waiting = false) (hover : r.overload = true)
    (hclear : (s.link l).overload = false) (hmode : s.modeOf l ≠ .limp) :
    ∃ t, exec (.legReportArrival l record) s = .next t ∧ (t.link l).overload = true ∧ ⟨.overload, l⟩ ∈ t.rxu.pending := by
  have kept : Keeps none true (s.warmedBy l r) (s.actedBy l r) := actedBy_kept hb hf
  have stood : (s.warmedBy l r).watched.standing = true := by rw [warmedBy_watched]; exact hb
  have rested : (s.warmedBy l r).watched.Dormant := by rw [warmedBy_watched]; exact ⟨live, hwait, .inl hrun⟩
  have powered : ((s.warmedBy l r).watched.cmd.get l).mode ≠ .limp := by rw [warmedBy_watched]; exact hmode
  have standing : (s.actedBy l r).pc.body.standing = true := kept.standing stood
  have still : (s.actedBy l r).rxu.re1 = false := (kept.dormant rfl rested).1.1
  have mode : (s.actedBy l r).modeOf l ≠ .limp := kept.modes stood l powered
  have admitted : ((s.actedBy l r).link l).withdrawn = false :=
    (kept.links l).withdrawn.trans ((warmedBy_withdrawn s l r l).trans hwd)
  have clear : ((s.actedBy l r).link l).overload = false :=
    (kept.links l).overload ((warmedBy_overload s l r l).trans hclear)
  refine ⟨_, report_flags ha hr hl hset, ?_⟩
  obtain ⟨pending, marked, flagged⟩ := obstructFlag_of_not_live (r := r) standing admitted still
  rw [(endExchange_heard _ l l).2.2, endExchange_eq, flagged]
  generalize hu : ({ s.actedBy l r with
    rxu.pending := pending,
    llc := (s.actedBy l r).llc.modify l fun k => { k with obstruct := marked k.obstruct } } : State) = u
  have linked : u.link l = { (s.actedBy l r).link l with obstruct := marked ((s.actedBy l r).link l).obstruct } := by
    rw [← hu]
    exact PerLeg.get_modify_self ..
  have raises : (u.modeOf l != .limp && !(u.link l).overload) = true := by
    have same : u.modeOf l = (s.actedBy l r).modeOf l := by rw [← hu]; rfl
    rw [same, linked]
    simp [mode, clear]
  have loaded : (({ u with llc := u.llc.modify l fun k => { k with overload := true } } : State).link l) =
      ({ u.link l with overload := true } : Link) := PerLeg.get_modify_self ..
  obtain ⟨-, raised⟩ := raiseCause_of_not_live (s := { u with llc := u.llc.modify l fun k => { k with overload := true } })
    .overload (l := l) (congrArg (fun q : State => q.pc.body.standing) hu.symm |>.trans standing)
    (by rw [loaded, linked]; exact admitted) (congrArg (fun q : State => q.rxu.re1) hu.symm |>.trans still)
  have judged : u.overloadFlag l r =
      ({ u with llc := u.llc.modify l fun k => { k with overload := true } } : State).listed .overload l := by
    unfold overloadFlag
    rw [if_pos hover, if_pos raises, raised]
  rw [judged]
  exact ⟨congrArg Link.overload loaded, listed_mem _ _ _⟩

end State
end Sys2Proof.Machine
end


section
/-! ## Reports of a leg out of the stance set, and of a body that does not stand -/

namespace Sys2Proof.Machine

namespace State

open Watched (Kept LinkKept LegKept)

variable {s t u q : State} {l : Leg} {r : Report} {record : List Byte}

/-! ### What the operations find -/

/-- R165: the state that the operations of a report find: the report is the last of its leg; no more than the support,
the windows, the links, the levels and the notes has changed. -/
structure Heard (s : State) (l : Leg) (r : Report) (q : State) : Prop where
  pc : q.pc = s.pc
  ssq : q.ssq = s.ssq
  pls : q.pls = s.pls
  fhq : q.fhq = s.fhq
  ztb : q.ztb = s.ztb
  rxu : q.rxu = s.rxu
  link : ∀ k, (q.link k).link = (s.link k).link
  withdrawn : ∀ k, (q.link k).withdrawn = (s.link k).withdrawn
  last : (q.link l).last = some r
  others : ∀ k, k ≠ l → (q.link k).last = (s.link k).last

theorem warmedBy_hears (hl : (s.link l).link = .ok) (r : Report) : Heard s l r (s.warmedBy l r) where
  pc := warmedBy_pc ..
  ssq := warmedBy_ssq ..
  pls := warmedBy_pls ..
  fhq := warmedBy_fhq ..
  ztb := warmedBy_ztb ..
  rxu := warmedBy_rxu ..
  link := warmedBy_linkState hl r
  withdrawn := warmedBy_withdrawn s l r
  last := by rw [warmedBy_link]
  others k hk := by rw [warmedBy_link_of_ne s r hk]

theorem steadied_hears (h : Heard s l r q) : Heard s l r (q.steadied l r) := by
  rw [steadied_blocks]
  exact { h with }

theorem calibReport_hears (h : Heard s l r q) : Heard s l r (q.calibReport l r) := by
  have calibrated := calibReport_calibrated q l r
  have kept (k : Leg) : ((q.calibReport l r).link k).heard = (q.link k).heard :=
    ((calibReport_kept (w := none) (d := false) q l r).links k).heard
  exact {
    pc := calibrated.pc.trans h.pc
    ssq := calibrated.ssq.trans h.ssq
    pls := calibrated.pls.trans h.pls
    fhq := calibrated.fhq.trans h.fhq
    ztb := calibrated.ztb.trans h.ztb
    rxu := calibrated.rxu.trans h.rxu
    link := fun k => (congrArg Link.link (kept k) :).trans (h.link k)
    withdrawn := fun k => (congrArg Link.withdrawn (kept k) :).trans (h.withdrawn k)
    last := (congrArg Link.last (kept l) :).trans h.last
    others := fun k hk => (congrArg Link.last (kept k) :).trans (h.others k hk) }

theorem slipReport_of_aside (h : (s.inStance l && s.pc.body.standing) = false) : s.slipReport l r = s.steadied l r := by
  have aside : ((s.steadied l r).inStance l && (s.steadied l r).pc.body.standing) = false := by
    rw [steadied_blocks]
    exact h
  unfold slipReport
  exact if_neg (Bool.eq_false_iff.mp aside)

/-- R129: the state that the operations find of a leg out of the stance set. -/
theorem reckoned_of_aside (hin : s.inStance l = false) :
    ((s.warmedBy l r).slipReport l r).reckoned l = (s.warmedBy l r).steadied l r := by
  have off : (s.warmedBy l r).inStance l = false := by rw [inStance, warmedBy_scu]; exact hin
  have still : ((s.warmedBy l r).steadied l r).inStance l = false := by
    rw [steadied_blocks]
    exact off
  rw [slipReport_of_aside (by rw [off, Bool.false_and]), reckoned, still]
  rfl

/-- R26, R40: where no body stands, the recomputation brings no TIP. -/
theorem reckoned_hears (hb : s.pc.body.standing = false) (hl : (s.link l).link = .ok) :
    Heard s l r (((s.warmedBy l r).slipReport l r).reckoned l) := by
  have down : (s.warmedBy l r).pc.body.standing = false := by rw [warmedBy_pc]; exact hb
  have found := steadied_hears (warmedBy_hears hl r)
  rw [slipReport_of_aside (by rw [down, Bool.and_false])]
  unfold reckoned
  split
  · have untested : ((s.warmedBy l r).steadied l r).recompute.pc.body.standing = false := by
      rw [steadied_blocks]
      exact down
    rw [recomputeTest, tipTest_of_not_standing untested]
    exact { found with }
  · exact found

theorem Heard.link_ok (h : Heard s l r q) (k : Leg) : q.linkOk k = s.linkOk k := by
  unfold linkOk
  rw [h.link]

theorem Heard.admitted (h : Heard s l r q) (k : Leg) : q.admitted k = s.admitted k := by
  unfold State.admitted
  rw [h.withdrawn]

/-- R165: the operation of a report of a leg out of the stance set, under a body that stands. -/
theorem actedBy_of_aside (hin : s.inStance l = false) (hb : s.pc.body.standing = true)
    (hf : s.pc.awaitFirst.get l = false) :
    s.actedBy l r = (((s.warmedBy l r).steadied l r).calibReport l r).waitingReport l r
      (((s.warmedBy l r).steadied l r).waitingOn l) := by
  have found : ((s.warmedBy l r).steadied l r).pc = s.pc := by
    rw [steadied_blocks]
    exact warmedBy_pc ..
  unfold actedBy
  rw [reckoned_of_aside hin]
  exact operationReport_eq (by rw [found]; exact hb) (by rw [found]; exact hf)

/-! ### The OBSTRUCT flag raised (R168) -/

/-- R165: the report of a leg in SWING whose swing is not done, and that no placement has, ends a CROUCH at most. -/
theorem actedBy_in_swing (hb : s.pc.body.standing = true) (hf : s.pc.awaitFirst.get l = false)
    (hset : StanceSetCurrent s) (hrun : s.rxu.running = none) (hmode : s.modeOf l = .swing) (hdone : r.swingDone = false)
    (hplace : s.pls.placement ≠ some l) :
    (s.actedBy l r).ssq = s.ssq ∧ (s.actedBy l r).pc = s.pc ∧ (s.actedBy l r).rxu.re1 = s.rxu.re1 := by
  have aside : s.inStance l = false := by
    refine Bool.eq_false_iff.mpr fun stance => ?_
    obtain ⟨ground, -⟩ := (hset l).mp stance
    cases hmode.symm.trans ground
  rw [actedBy_of_aside aside hb hf]
  have found : ((s.warmedBy l r).steadied l r).pc = s.pc ∧ ((s.warmedBy l r).steadied l r).ssq = s.ssq ∧
      ((s.warmedBy l r).steadied l r).pls = s.pls ∧ ((s.warmedBy l r).steadied l r).rxu = s.rxu ∧
      ((s.warmedBy l r).steadied l r).scu = s.scu := by
    rw [steadied_blocks]
    exact ⟨warmedBy_pc .., warmedBy_ssq .., warmedBy_pls .., warmedBy_rxu .., warmedBy_scu ..⟩
  generalize (s.warmedBy l r).steadied l r = q at found
  obtain ⟨pc, ssq, pls, rxu, scu⟩ := found
  have calibrated := calibReport_calibrated q l r
  generalize q.calibReport l r = u at calibrated
  have same : u.ssq = s.ssq ∧ u.pc = s.pc ∧ u.rxu.re1 = s.rxu.re1 :=
    ⟨calibrated.ssq.trans ssq, calibrated.pc.trans pc, congrArg Reflexes.re1 (calibrated.rxu.trans rxu)⟩
  have undone (f : State → State) : (if r.swingDone && u.modeOf l == .swing then f u else u) = u := by
    rw [hdone, Bool.false_and]
    rfl
  rcases waitingOn_cases q l with ⟨e, -, -⟩ | ⟨e, -, lifts⟩ | ⟨e, -, -⟩ | ⟨e, places⟩ | ⟨e, stance⟩ | e <;>
    rw [e, waitingReport]
  · split
    · simpa [crouched] using same
    · exact same
  · rw [rxu, hrun] at lifts
    cases lifts
  · rw [undone fun u => u.beginPlace l]
    exact same
  · rw [pls] at places
    exact absurd places hplace
  · rw [inStance, scu] at stance
    cases aside.symm.trans stance
  · exact same

/-- R168: a report of an obstruction, with reflexes not live. -/
theorem report_raises_obstruct (ha : (s.link l).awaiting = true) (hr : judgeReport record = .good r)
    (hl : (s.link l).link = .ok) (hb : s.pc.body.standing = true) (hwd : (s.link l).withdrawn = false)
    (hf : s.pc.awaitFirst.get l = false) (hset : StanceSetCurrent s) (live : s.rxu.re1 = false)
    (hrun : s.rxu.running = none) (hob : r.obstruct = true) (hov : r.overload = false)
    (hclear : (s.link l).obstruct = false) (hmode : s.modeOf l = .swing) (hdone : r.swingDone = false)
    (hplace : s.pls.placement ≠ some l) :
    ∃ t, exec (.legReportArrival l record) s = .next t ∧ (t.link l).obstruct = true ∧ ⟨.obstruct, l⟩ ∈ t.rxu.pending := by
  obtain ⟨ssq, pc, re1⟩ := actedBy_in_swing (l := l) (r := r) hb hf hset hrun hmode hdone hplace
  have kept := (actedBy_loose s l r).links l
  have admits : ((s.actedBy l r).link l).withdrawn = false := kept.withdrawn.trans ((warmedBy_withdrawn s l r l).trans hwd)
  have unmarked : ((s.actedBy l r).link l).obstruct = false := kept.obstruct (by
    rw [show ((s.warmedBy l r).watched.links.get l) = (s.warmedBy l r).link l from rfl, warmedBy_link]
    exact hclear)
  refine ⟨_, report_flags ha hr hl hset, ?_⟩
  generalize s.actedBy l r = v at *
  have marks : ((v.modeOf l == .swing || v.modeOf l == .placing) && !(v.link l).obstruct) = true := by
    have swings : v.modeOf l = .swing := by
      rw [modeOf, cmdOf, ssq]
      exact hmode
    simp [swings, unmarked]
  have marked : (({ v with llc := v.llc.modify l fun k => { k with obstruct := true } } : State).link l) =
      ({ v.link l with obstruct := true } : Link) := PerLeg.get_modify_self ..
  obtain ⟨-, raised⟩ := raiseCause_of_not_live (s := { v with llc := v.llc.modify l fun k => { k with obstruct := true } })
    .obstruct (l := l) ((congrArg (·.body.standing) pc).trans hb) (by rw [marked]; exact admits) (re1.trans live)
  have judged : v.obstructFlag l r =
      ({ v with llc := v.llc.modify l fun k => { k with obstruct := true } } : State).listed .obstruct l := by
    unfold obstructFlag
    rw [if_pos hob, if_pos marks, raised]
  have ended : (v.obstructFlag l r).overloadFlag l r = (v.obstructFlag l r).endOverload l := by
    unfold overloadFlag
    rw [hov]
    rfl
  have listed : ⟨.obstruct, l⟩ ∈ (v.obstructFlag l r).rxu.pending := by
    rw [judged]
    exact listed_mem _ _ _
  rw [(endExchange_heard _ l l).2.1, endExchange_eq, ended]
  refine ⟨(endOverload_heard _ l l).2.trans (by rw [judged]; exact congrArg Link.obstruct marked), ?_⟩
  unfold endOverload
  split
  · exact List.mem_filter.mpr ⟨listed, by simp⟩
  · exact listed

end State
end Sys2Proof.Machine
end


section
/-! ## Reports that end a rise, a lowering or a swing -/

namespace Sys2Proof.Machine

namespace State

open Watched (Kept LinkKept LegKept)

variable {s t u q : State} {l : Leg} {r : Report} {record : List Byte}

/-! ### Tests of TIP with room on the stack -/

/-- R39, R40: where a test leaves no CROUCH, it leaves no more than its marks. -/
theorem tipTest_marks (room : s.rxu.stack.length < 4) (free : s.pc.protect = false) (clear : s.tipTest.rxu.crouch = .clear) :
    ∃ condition raised, s.tipTest = { s with scu.tipCondition := condition, scu.tipRaised := raised } := by
  rcases tipTest_cases_of_room room with marks | ⟨noted | noted, dropped, hli, e⟩ | e
  · exact marks
  · cases free.symm.trans noted
  · rw [e] at clear
    exact absurd clear noted
  · rw [e] at clear
    cases clear

/-- R142, R155: what a test leaves of the state in any case. -/
theorem tipTest_leaves (room : s.rxu.stack.length < 4) :
    s.tipTest.ssq.verified = s.ssq.verified ∧ s.tipTest.rxu.waiting = s.rxu.waiting ∧
      (s.tipTest.pls.placement = s.pls.placement ∨ s.tipTest.pls.placement = none) ∧
      (s.tipTest.pc = s.pc ∧ s.tipTest.rxu.crouch = s.rxu.crouch ∨
        s.tipTest.pc = { s.pc with body := .recover } ∧ s.tipTest.rxu.crouch = .running) := by
  rcases tipTest_cases_of_room room with ⟨c, b, e⟩ | ⟨-, dropped, hli, e⟩ | e <;> rw [e]
  · exact ⟨rfl, rfl, .inl rfl, .inl ⟨rfl, rfl⟩⟩
  · exact ⟨rfl, rfl, .inl rfl, .inl ⟨rfl, rfl⟩⟩
  · refine ⟨(crouchAll_verified _ :), (congrArg Reflexes.waiting (crouchAll_rxu _) :), .inr (congrArg Placer.placement (crouchAll_pls _) :), .inr ⟨?_, rfl⟩⟩
    rw [beginCrouch_pc]
    rfl

/-- R40, R140: with room on the stack and no rise that waits, a change of the body state brings the test alone. -/
theorem bodySettled_tests {b : BodyState} (hne : s.pc.body ≠ b) (room : s.rxu.stack.length < 4)
    (waits : s.rxu.waiting = false) : s.bodySettled b = s.tipTest := by
  obtain ⟨-, waiting, -⟩ := tipTest_leaves room
  exact bodySettled_of_no_rise hne (.inl (waiting.trans waits))

/-! ### The end of a rise (R8) -/

theorem verifyAll_eq (s : State) :
    s.verifyAll = { s with ssq.verified := .tab fun k => s.admitted k || s.verifiedOf k } := by
  have step (s : State) (k : Leg) :
      (if s.admitted k then s.setVerified k true else s) = s.setVerified k (s.admitted k || s.verifiedOf k) := by
    split
    · rename_i admits
      rw [admits, Bool.true_or]
    · rename_i withdrawn
      rw [Bool.eq_false_iff.mpr withdrawn, Bool.false_or]
      unfold setVerified verifiedOf
      rw [PerLeg.set_get]
  simp only [verifyAll, Leg.all, List.foldl, step]
  rfl

/-- R8: the report of a leg while RISING. -/
theorem operationReport_of_rising (hb : s.pc.body = .rising) (hf : s.pc.awaitFirst.get l = false) (ha : s.admitted l = true) :
    s.operationReport l r = (s.calibReport l r).riseReport l := by
  have admits : (s.calibReport l r).admitted l = true := by
    unfold State.admitted
    rw [show ((s.calibReport l r).link l).withdrawn = (s.link l).withdrawn from
      ((calibReport_kept (w := none) (d := false) s l r).links l).withdrawn]
    exact ha
  unfold operationReport
  simp only [hf, Bool.false_eq_true, if_false, calibReport_pc, hb, admits, if_true]

/-- R8: a rise is complete when each admitted leg has reported, at stand height and in contact, over a link that is OK. -/
theorem riseComplete_of (h : ∀ k, (s.link k).withdrawn = false → s.pc.roseReported.get k = true ∧ (s.link k).link = .ok ∧
    ∃ q, (s.link k).last = some q ∧ (q.z - s.pc.geom.stand).natAbs ≤ 10 ∧ s.zone.surface.contact ≤ q.force) :
    s.riseComplete = true := by
  refine List.all_eq_true.mpr fun k _ => ?_
  cases withdrawn : (s.link k).withdrawn with
  | true => simp [State.admitted, withdrawn]
  | false =>
    obtain ⟨reported, ok, q, last, height, force⟩ := h k withdrawn
    simp [State.admitted, withdrawn, reported, linkOk, ok, nearHeight, loadedAt, last, height, contactInForce, force]

/-- R8: a leg off its height, or out of contact, holds the rise up. -/
theorem riseComplete_of_off (admits : s.admitted l = true) (last : (s.link l).last = some r)
    (off : (r.z - s.pc.geom.stand).natAbs > 10 ∨ r.force < s.zone.surface.contact) : s.riseComplete = false := by
  have fails : (s.nearHeight s.pc.geom.stand l && s.loadedAt s.contactInForce l) = false := by
    simp only [nearHeight, loadedAt, last, contactInForce]
    rcases off with off | off
    · simp [Nat.not_le.mpr off]
    · simp [Int.not_le.mpr off]
  refine Bool.eq_false_iff.mpr fun complete => ?_
  have holds := List.all_eq_true.mp complete l (Leg.mem_all l)
  rw [admits, Bool.and_assoc, fails, Bool.and_false] at holds
  cases holds

/-- R8: the parts of a rise that is complete: the flags set, the stance set derived. -/
def rose (s : State) (l : Leg) : State :=
  (verifyAll { s with pc.roseReported := s.pc.roseReported.set l true, pc.riseTimer := none }).stanceUpdate

/-- R8: the rise completes, and the body stands or crouches. -/
theorem riseReport_stands (hb : s.pc.body = .rising) (hs : s.rxu.stack = []) (hw : s.rxu.waiting = false)
    (clear : s.rxu.crouch = .clear)
    (complete : ({ s with pc.roseReported := s.pc.roseReported.set l true } : State).riseComplete = true) :
    (s.riseReport l).pc.riseTimer = none ∧ (∀ k, s.admitted k = true → (s.riseReport l).verifiedOf k = true) ∧
      ((s.riseReport l).rxu.crouch = .clear → (s.riseReport l).pc.body = .stand) ∧
      ((s.riseReport l).rxu.crouch ≠ .clear → (s.riseReport l).pc.body = .recover) := by
  have down : (verifyAll { s with pc.roseReported := s.pc.roseReported.set l true, pc.riseTimer := none }).pc.body.standing =
      false := by
    rw [verifyAll_eq]
    simp [hb, BodyState.standing]
  have restanced := stanceUpdate_restanced down
  have unlisted : (s.rose l).rxu.unlisted = s.rxu.unlisted := by
    rw [rose, restanced.unlisted, verifyAll_eq]
  have pc : (s.rose l).pc = { s.pc with roseReported := s.pc.roseReported.set l true, riseTimer := none } := by
    rw [rose, restanced.pc, verifyAll_eq]
  have verified (k : Leg) (admits : s.admitted k = true) : (s.rose l).verifiedOf k = true := by
    rw [verifiedOf, rose, restanced.ssq, verifyAll_eq]
    rw [PerLeg.get_tab, show ({ s with pc.roseReported := s.pc.roseReported.set l true, pc.riseTimer := none } : State).admitted
      k = true from admits, Bool.true_or]
  have parts : s.riseReport l = ((s.rose l).setBody .stand .done).bodySettled .rising := by
    rw [riseReport_eq, if_pos complete, ← rose, pc, hb]
  have rising : (s.rose l).pc.body = .rising := by rw [pc]; exact hb
  have stands := setBody_of_other (s := s.rose l) (b := .stand) .done (by rw [rising]; decide) rfl (by decide)
    (by rw [rising]; decide)
  generalize s.rose l = v at *
  generalize hv : v.setBody .stand .done = x at *
  have stack : x.rxu.stack = [] := by
    rw [stands]
    exact (congrArg Reflexes.stack unlisted :).trans hs
  have crouch : x.rxu.crouch = .clear := by
    rw [stands]
    exact (congrArg Reflexes.crouch unlisted :).trans clear
  have waiting : x.rxu.waiting = false := by
    rw [stands]
    exact (congrArg Reflexes.waiting unlisted :).trans hw
  have posture : x.pc = { v.pc with body := .stand } := by rw [stands]
  have room : x.rxu.stack.length < 4 := by rw [stack]; decide
  obtain ⟨kept, -, -, settled⟩ := tipTest_leaves room
  rw [parts, bodySettled_tests (by rw [posture]; exact nofun) room waiting]
  refine ⟨?_, fun k admits => ?_, ?_⟩
  · rcases settled with ⟨e, -⟩ | ⟨e, -⟩ <;> rw [e, posture, pc]
  · rw [verifiedOf, kept]
    exact (congrArg (fun s : State => s.verifiedOf k) stands).trans (verified k admits)
  · rcases settled with ⟨e, same⟩ | ⟨e, running⟩
    · rw [e, posture, same, crouch]
      exact ⟨fun _ => rfl, fun h => absurd rfl h⟩
    · rw [e, running]
      exact ⟨nofun, fun _ => rfl⟩

/-- R8: the report that the operations of a rise find. -/
theorem actedBy_of_rising (hr : reports s l record r) (hb : s.pc.body = .rising) :
    ∃ q, Heard s l r q ∧ s.actedBy l r = q.riseReport l := by
  obtain ⟨-, -, ok, admits, awaits, -⟩ := hr
  have found := reckoned_hears (r := r) (by rw [hb]; rfl) ok
  exact ⟨_, calibReport_hears found, operationReport_of_rising (by rw [found.pc, hb]) (by rw [found.pc, awaits])
    (by rw [found.admitted, State.admitted, admits]; rfl)⟩

/-- R8: the last report that a rise waits for. -/
theorem report_ends_rise (hr : reports s l record r) (hb : s.pc.body = .rising) (hs : s.rxu.stack = [])
    (hw : s.rxu.waiting = false)
    (hothers : ∀ k, k ≠ l → (s.link k).withdrawn = false → s.pc.roseReported.get k = true ∧ (s.link k).link = .ok ∧
      ∃ q, (s.link k).last = some q ∧ (q.z - s.pc.geom.stand).natAbs ≤ 10 ∧ s.zone.surface.contact ≤ q.force)
    (hz : (r.z - s.pc.geom.stand).natAbs ≤ 10) (hforce : s.zone.surface.contact ≤ r.force) :
    ∃ t, exec (.legReportArrival l record) s = .next t ∧ t.pc.riseTimer = none ∧
      (∀ k, (s.link k).withdrawn = false → t.verifiedOf k = true) ∧ (t.rxu.crouch = .clear → t.pc.body = .stand) ∧
      (t.rxu.crouch ≠ .clear → t.pc.body = .recover) := by
  obtain ⟨links, told⟩ := reports_acts hr
  obtain ⟨q, found, acted⟩ := actedBy_of_rising hr hb
  obtain ⟨-, -, ok, -, -, -, -, -, -, clear, -⟩ := hr
  have zone : q.zone = s.zone := zone_congr found.ztb
  have complete : ({ q with pc.roseReported := q.pc.roseReported.set l true } : State).riseComplete = true := by
    refine riseComplete_of fun k admits => ?_
    have same : ({ q with pc.roseReported := q.pc.roseReported.set l true } : State).zone = s.zone := zone
    rw [same]
    simp only [found.pc]
    by_cases hk : k = l
    · subst hk
      exact ⟨PerLeg.get_set_self .., (found.link k).trans ok, r, found.last, hz, hforce⟩
    · obtain ⟨reported, okk, q', last, height, force⟩ := hothers k hk ((found.withdrawn k).symm.trans admits)
      exact ⟨(PerLeg.get_set_of_ne _ _ hk).trans reported, (found.link k).trans okk, q', (found.others k hk).trans last,
        height, force⟩
  obtain ⟨timer, verified, body⟩ := riseReport_stands (l := l) (by rw [found.pc, hb]) (by rw [found.rxu, hs])
    (by rw [found.rxu, hw]) (by rw [found.rxu, clear]) complete
  rw [acted] at told
  exact ⟨_, told, timer, fun k admits => verified k (by rw [found.admitted, State.admitted, admits]; rfl), body⟩

/-- R8: a report that is not at stand height, or not in contact. -/
theorem report_in_rise (hr : reports s l record r) (hb : s.pc.body = .rising)
    (hoff : (r.z - s.pc.geom.stand).natAbs > 10 ∨ r.force < s.zone.surface.contact) :
    ∃ t, exec (.legReportArrival l record) s = .next t ∧
      t.pc = { s.pc with roseReported := s.pc.roseReported.set l true } := by
  obtain ⟨links, told⟩ := reports_acts hr
  obtain ⟨q, found, acted⟩ := actedBy_of_rising hr hb
  obtain ⟨-, -, -, admits, -⟩ := hr
  have zone : q.zone = s.zone := zone_congr found.ztb
  have incomplete : ({ q with pc.roseReported := q.pc.roseReported.set l true } : State).riseComplete = false :=
    riseComplete_of_off (l := l) (r := r) (Eq.trans (found.admitted l) (by rw [State.admitted, admits]; rfl)) found.last (by
      have same : ({ q with pc.roseReported := q.pc.roseReported.set l true } : State).zone = s.zone := zone
      rw [same]
      simp only [found.pc]
      exact hoff)
  refine ⟨_, told, ?_⟩
  rw [acted, riseReport_eq, if_neg (by rw [incomplete]; decide)]
  simp only [found.pc]

/-! ### The end of a lowering (R13) -/

/-- R13: the last report that a lowering waits for. -/
theorem report_ends_lowering (hr : reports s l record r) (hb : s.pc.body = .lowering) (hl : s.pc.lowered.get l = true)
    (hothers : ∀ k, k ≠ l → s.pc.lowered.get k = true → (s.link k).link = .ok →
      ∃ q, (s.link k).last = some q ∧ (q.z + 150).natAbs ≤ 10)
    (hz : (r.z + 150).natAbs ≤ 10) :
    ∃ t, exec (.legReportArrival l record) s = .next t ∧ t.pc.body = .rest ∧ t.pc.postureSafe = true ∧
      t.pc.loweringTimer = none ∧ t.scu.sway = ⟨0, 0⟩ ∧
      (∀ k, t.modeOf k = .limp ∧ t.verifiedOf k = false ∧ t.inStance k = false) := by
  obtain ⟨links, told⟩ := reports_acts hr
  obtain ⟨-, -, ok, -, awaits, -⟩ := hr
  have found := reckoned_hears (r := r) (by rw [hb]; rfl) ok
  have heard := calibReport_hears found
  generalize hq : ((s.warmedBy l r).slipReport l r).reckoned l = q at found heard
  have lowers : (q.calibReport l r).lowerReport = (q.calibReport l r).endLowering .done := by
    refine if_pos (List.all_eq_true.mpr fun k _ => ?_)
    rw [heard.link_ok, heard.pc]
    cases lowered : s.pc.lowered.get k with
    | false => rfl
    | true =>
      cases linked : s.linkOk k with
      | false => rfl
      | true =>
        by_cases hk : k = l
        · subst hk
          simp [nearHeight, heard.last, hz]
        · obtain ⟨q', last, height⟩ := hothers k hk lowered (by simpa [linkOk] using linked)
          simp [nearHeight, heard.others k hk, last, height]
  have acted : s.actedBy l r = (q.calibReport l r).endLowering .done := by
    rw [← lowers, actedBy, hq]
    unfold operationReport
    simp only [found.pc, awaits, Bool.false_eq_true, if_false, heard.pc, hb, hl, if_true]
  have lowering : (q.calibReport l r).pc.body = .lowering := by rw [heard.pc, hb]
  obtain ⟨legs, sway, -⟩ := endLowering_effect .done lowering
  rw [acted] at told
  have posture := endLowering_pc .done lowering
  generalize (q.calibReport l r).endLowering .done = v at *
  exact ⟨_, told, (congrArg Posture.body posture :), (congrArg Posture.postureSafe posture :),
    (congrArg Posture.loweringTimer posture :), sway, fun k => by
      obtain ⟨cmd, verified, stance⟩ := legs k
      exact ⟨(congrArg LegCmd.mode cmd :), verified, stance⟩⟩

end State
end Sys2Proof.Machine
end


section
/-! ## Reports that end a swing or a placement -/

namespace Sys2Proof.Machine

namespace State

open Watched (Kept LinkKept LegKept Grounded)

variable {s t u q : State} {l : Leg} {r : Report} {record : List Byte}

/-! ### A leg in the air -/

/-- R165: the report of a leg out of the stance set, under a body that stands, goes to what waits on it. -/
theorem waits_of_aside (hr : reports s l record r) (hin : s.inStance l = false) (hb : s.pc.body.standing = true) :
    ∃ u, Heard s l r u ∧ u.scu = s.scu ∧ StanceSetCurrent u ∧ s.actedBy l r = u.waitingReport l r (s.waitingOn l) := by
  obtain ⟨-, -, ok, -, awaits, -, -, -, -, -, current⟩ := hr
  have heard := calibReport_hears (steadied_hears (warmedBy_hears ok r))
  have steadied : ((s.warmedBy l r).steadied l r).scu = s.scu := by
    rw [steadied_blocks]
    exact warmedBy_scu ..
  have scu := (calibReport_calibrated ((s.warmedBy l r).steadied l r) l r).scu.trans steadied
  have waits : ((s.warmedBy l r).steadied l r).waitingOn l = s.waitingOn l := by
    have found := steadied_hears (warmedBy_hears ok r)
    unfold waitingOn inStance
    rw [found.pc, found.rxu, found.ssq, found.pls, steadied]
  refine ⟨_, heard, scu, fun k => ?_, waits ▸ actedBy_of_aside hin hb awaits⟩
  unfold inStance modeOf cmdOf verifiedOf
  rw [scu, heard.ssq, heard.link, heard.withdrawn]
  exact current k

theorem aside_of_mode (hset : StanceSetCurrent s) (h : s.modeOf l ≠ .stance) : s.inStance l = false :=
  Bool.eq_false_iff.mpr fun stance => h ((hset l).mp stance).1

/-- R59: the report of a swing done begins the placement. -/
theorem report_ends_swing (hr : reports s l record r) (hphase : s.ssq.phase = .swing) (hstep : s.ssq.stepping = some l)
    (hmode : s.modeOf l = .swing) (hlift : s.rxu.liftTimer = none) (hb : s.pc.body.standing = true) (hone : OneLegInAir s)
    (hdone : r.swingDone = true) :
    ∃ t, exec (.legReportArrival l record) s = .next t ∧ t.ssq.phase = .place ∧ t.ssq.phaseTimer = none ∧
      t.modeOf l = .placing ∧ (t.cmdOf l).target = clampPoint (s.cmdOf l).target ∧
      t.pls = { s.pls with placement := some l, sub := .lower, attempt := 0, target := (s.cmdOf l).target,
                           attemptTarget := (s.cmdOf l).target, liftClearance := (s.cmdOf l).clearance,
                           maxReplace := s.ssq.latched.maxReplace, surface := s.ssq.latched.surface,
                           entry := (s.queueOf l).entries.head?.filter Foothold.inUse, placeTimer := some 0,
                           reswingTimer := none } ∧
      (∀ k, k ≠ l → t.cmdOf k = s.cmdOf k) ∧ t.pc = s.pc ∧ t.rxu = s.rxu ∧ t.fhq = s.fhq ∧ t.scu = s.scu := by
  obtain ⟨links, told⟩ := reports_acts hr
  obtain ⟨-, -, -, -, -, -, -, -, free, clear, current⟩ := id hr
  obtain ⟨u, heard, scu, set, acted⟩ := waits_of_aside hr (aside_of_mode current (by rw [hmode]; decide)) hb
  have waits : s.waitingOn l = .swing := by
    unfold waitingOn
    simp [free, clear, hlift, hphase, hstep]
  have same (k : Leg) : u.cmdOf k = s.cmdOf k := by rw [cmdOf, heard.ssq]; rfl
  have mode : u.modeOf l = .swing := (congrArg LegCmd.mode (same l)).trans hmode
  have alone : OneLegInAir u := fun j k hj hk => hone j k (by simpa [inAir, modeOf, same] using hj)
    (by simpa [inAir, modeOf, same] using hk)
  generalize hq : { u with ssq.phase := .place, ssq.phaseTimer := none } = q
  have begun : u.waitingReport l r .swing =
      (q.placing l (u.cmdOf l).target (u.cmdOf l).clearance ((u.headOf l).filter Foothold.inUse)).setCmd l .placing
        (u.cmdOf l).target (u.cmdOf l).clearance := by
    have placed := beginPlacement_in_air (s := q) (l := l) (by rw [← hq]; exact mode) (by rw [← hq]; exact alone)
      (by rw [← hq]; exact set) (u.cmdOf l).target (u.cmdOf l).clearance ((u.headOf l).filter Foothold.inUse)
    have held : q.cmdOf l = u.cmdOf l := by rw [← hq]; rfl
    rw [waitingReport, hdone, mode, if_pos (by decide), beginPlace, hq, held, placed, held]
  rw [waits, begun] at acted
  obtain ⟨pls, phase, mode', target, rxu, others, pc, fhq, -, -, -, scu', -⟩ := setCmd_placing_effect
    (q.placing l (u.cmdOf l).target (u.cmdOf l).clearance ((u.headOf l).filter Foothold.inUse)) l (u.cmdOf l).target
    (u.cmdOf l).clearance
  have timer := setCmd_uncommanded
    (q.placing l (u.cmdOf l).target (u.cmdOf l).clearance ((u.headOf l).filter Foothold.inUse)) l .placing (u.cmdOf l).target
    (u.cmdOf l).clearance
  rw [← acted] at pls phase mode' target rxu others pc fhq scu' timer
  refine ⟨_, told, ?_, ?_, mode', ?_, ?_, fun k hk => ?_, ?_, ?_, ?_, ?_⟩
  · exact phase.trans (by rw [← hq]; rfl)
  · exact (congrArg Strider.phaseTimer timer :).trans (by rw [← hq]; rfl)
  · exact target.trans (by rw [same])
  · refine pls.trans ?_
    rw [← hq, placing]
    simp only [headOf, queueOf, heard.pls, heard.ssq, heard.fhq, same]
  · exact (others k hk).trans (by rw [← hq]; exact same k)
  · exact pc.trans (by rw [← hq]; exact heard.pc)
  · exact rxu.trans (by rw [← hq]; exact heard.rxu)
  · exact fhq.trans (by rw [← hq]; exact heard.fhq)
  · exact scu'.trans (by rw [← hq]; exact scu)

end State
end Sys2Proof.Machine
end


section
/-! ## Phase boundaries of a walk that nothing holds up -/

namespace Sys2Proof.Machine

namespace State

variable {s t u q : State} {l : Leg} {r : Report} {b : Boundary}

/-- R52: a walk on which only its own next phase waits, with no CROUCH and the latch clear. -/
structure Onward (s : State) : Prop where
  body : s.pc.body = .walk
  running : s.rxu.running = none
  reseat : s.pls.reseat = false
  stack : s.rxu.stack = []
  pending : s.rxu.pending = []
  waiting : s.rxu.waiting = false
  stopMark : s.ssq.stopMark = false
  fresh : s.scu.attStale = false
  free : s.pc.protect = false
  clear : s.rxu.crouch = .clear

theorem onward_of_walksOn (h : walksOn s) (free : s.pc.protect = false) (clear : s.rxu.crouch = .clear) : Onward s := by
  obtain ⟨body, ⟨running, reseat⟩, stack, pending, waiting, stopMark, fresh⟩ := h
  exact ⟨body, running, reseat, stack, pending, waiting, stopMark, fresh, free, clear⟩

namespace Onward

theorem owner (h : Onward s) : s.owner = .stride := owner_of_striding ⟨h.running, h.reseat⟩

theorem room (h : Onward s) : s.rxu.stack.length < 4 := by rw [h.stack]; decide

/-- A change that none of this reads. -/
theorem frame (h : Onward s) (pc : t.pc = s.pc) (rxu : t.rxu = s.rxu) (reseat : t.pls.reseat = s.pls.reseat)
    (stop : t.ssq.stopMark = s.ssq.stopMark) (stale : t.scu.attStale = s.scu.attStale) : Onward t := by
  obtain ⟨body, running, reseats, stack, pending, waiting, stopMark, fresh, free, clear⟩ := h
  rw [← pc] at body free
  rw [← rxu] at running stack pending waiting clear
  exact ⟨body, running, reseat.trans reseats, stack, pending, waiting, stop.trans stopMark, stale.trans fresh, free, clear⟩

end Onward

/-- R52: at the boundary, the walk goes on but for a body that is too hot. -/
theorem Onward.boundary_eq (h : Onward s) (b : Boundary) :
    s.boundary b = if 3 ≤ s.tdu.body then s.holdAtBoundary b else s.goOn b := by
  have still : s.enablesAtBoundary = s := by simp [enablesAtBoundary, h.waiting]
  have nothing : s.mayTakePending = false := by simp [mayTakePending, h.pending]
  have holds : (s.mustHold = true) = (3 ≤ s.tdu.body) := by simp [mustHold, h.pending, h.fresh]
  rw [State.boundary_eq, still, h.stopMark, nothing]
  simp only [Bool.false_eq_true, if_false, holds]

/-- R52, R53: the walk held at a boundary, before the change of the body state is settled. -/
def heldAt (s : State) (b : Boundary) : State :=
  match b with
  | .placed => s.postHoldFaults.holdAfterStep .fault .done
  | .pause => s.postHoldFaults.enterHold ⟨s.postHoldFaults.ssq.order.first, 1⟩ .fault
  | _ => s.postHoldFaults.enterHold ⟨s.postHoldFaults.ssq.stepping.getD s.postHoldFaults.ssq.order.first,
      s.postHoldFaults.ssq.index⟩ .fault

theorem holdAtBoundary_eq (s : State) (b : Boundary) : s.holdAtBoundary b = (s.heldAt b).bodySettled s.pc.body := by
  cases b <;> rfl

/-- R52: a hold at a boundary first posts its FAULT notes. -/
theorem postHoldFaults_eq (s : State) : ∃ hli, s.postHoldFaults = { s with hli := hli } := by
  have heat (s : State) : ∃ hli, (if 3 ≤ s.tdu.body then s.postFault .hotStop none else s) = { s with hli := hli } := by
    split
    · exact ⟨_, postNote_eq _ _⟩
    · exact ⟨s.hli, rfl⟩
  have listed (s : State) : ∃ hli, (match s.rxu.pending with
      | e :: _ => s.postNote (.fault .causePending (some e.leg) (some (.cause e.cause)))
      | [] => s) = { s with hli := hli } := by
    split
    · exact ⟨_, postNote_eq _ _⟩
    · exact ⟨s.hli, rfl⟩
  obtain ⟨hli, noted⟩ := listed s
  obtain ⟨hli', heated⟩ := heat { s with hli := hli }
  exact ⟨hli', (congrArg (fun s : State => if 3 ≤ s.tdu.body then s.postFault .hotStop none else s) noted).trans heated⟩

theorem endStep_eq (s : State) : s.endStep = { s with ssq := s.endStep.ssq, hli := s.endStep.hli } := by
  by_cases four : s.ssq.index = 4
  · rw [endStep_of_four four]
    exact (postNote_eq _ _).trans (by rw [postNote_ssq])
  · rw [endStep_of_ne four]

/-- What a hold leaves of the blocks. -/
structure HeldFrom (s t : State) : Prop where
  body : t.pc.body ≠ .walk
  rxu : t.rxu = s.rxu
  pls : t.pls = s.pls
  fhq : t.fhq = s.fhq
  ztb : t.ztb = s.ztb
  tdu : t.tdu = s.tdu
  sway : t.scu.sway = s.scu.sway
  protect : t.pc.protect = s.pc.protect

theorem enterHold_held (hb : s.pc.body = .walk) (n : NextStep) (r : BodyReason) : HeldFrom s (s.enterHold n r) := by
  rw [enterHold_eq (line := s) hb rfl]
  exact ⟨nofun, rfl, rfl, rfl, rfl, rfl, rfl, rfl⟩

theorem walkOver_held (hb : s.pc.body = .walk) (r : BodyReason) : HeldFrom s (s.walkOver r) := by
  rw [walkOver_eq (line := s) hb rfl]
  exact ⟨nofun, rfl, rfl, rfl, rfl, rfl, rfl, rfl⟩

/-- Before the hold, a step may end and notes be posted. -/
theorem HeldFrom.after (h : HeldFrom q t) (rxu : q.rxu = s.rxu) (pls : q.pls = s.pls) (fhq : q.fhq = s.fhq)
    (ztb : q.ztb = s.ztb) (tdu : q.tdu = s.tdu) (scu : q.scu = s.scu) (pc : q.pc = s.pc) : HeldFrom s t :=
  ⟨h.body, h.rxu.trans rxu, h.pls.trans pls, h.fhq.trans fhq, h.ztb.trans ztb, h.tdu.trans tdu, h.sway.trans (congrArg Support.sway scu),
    h.protect.trans (congrArg Posture.protect pc)⟩

theorem holdAfterStep_held (hb : s.pc.body = .walk) (r r' : BodyReason) : HeldFrom s (s.holdAfterStep r r') := by
  have ended : s.endStep.pc.body = .walk := by rw [endStep_eq]; exact hb
  unfold holdAfterStep
  split
  · refine (walkOver_held ended _).after ?_ ?_ ?_ ?_ ?_ ?_ ?_ <;> rw [endStep_eq]
  · refine (enterHold_held ended _ _).after ?_ ?_ ?_ ?_ ?_ ?_ ?_ <;> rw [endStep_eq]

theorem heldAt_held (hb : s.pc.body = .walk) (b : Boundary) : HeldFrom s (s.heldAt b) := by
  obtain ⟨hli, e⟩ := postHoldFaults_eq s
  have noted : s.postHoldFaults.pc.body = .walk := by rw [e]; exact hb
  have held : HeldFrom s.postHoldFaults (s.heldAt b) := by
    cases b with
    | placed => exact holdAfterStep_held noted _ _
    | _ => exact enterHold_held noted _ _
  refine held.after ?_ ?_ ?_ ?_ ?_ ?_ ?_ <;> rw [e]

/-- R52, R40: the hold, and the test that its change of the body state brings. -/
theorem Onward.holdAtBoundary_eq (h : Onward s) (b : Boundary) : s.holdAtBoundary b = (s.heldAt b).tipTest := by
  have held := heldAt_held h.body b
  rw [State.holdAtBoundary_eq, bodySettled_tests (by rw [h.body]; exact held.body) (by rw [held.rxu]; exact h.room)
    (by rw [held.rxu]; exact h.waiting)]

end State
end Sys2Proof.Machine
end


section
/-! ## A report that verifies a placement of the walk (R77, R61) -/

namespace Sys2Proof.Machine

namespace State

open Watched (Kept LinkKept LegKept Grounded)

variable {s t u q : State} {l : Leg} {r : Report} {record : List Byte}

/-! ### The leg put down -/

theorem restanced_sampled (s : State) : s.restanced.sampling = s.sampling := (restanced_footed (s₀ := s) rfl).sampling

/-- R77: the state as the placement ends, before the test of TIP. -/
structure Touched (s : State) (l : Leg) (t : State) : Prop where
  pc : t.pc = s.pc
  rxu : t.rxu = s.rxu
  strider : t.ssq.uncommanded = s.ssq.uncommanded
  placement : t.pls.placement = none
  reseat : t.pls.reseat = s.pls.reseat
  fhq : t.fhq = (s.consumedBy l).fhq
  sway : t.scu.sway = s.scu.sway
  stale : t.scu.attStale = s.scu.attStale
  cmd : t.cmdOf l = { mode := .stance, target := clampPoint s.pls.attemptTarget, clearance := (s.cmdOf l).clearance }
  others : ∀ k, k ≠ l → t.cmdOf k = s.cmdOf k
  verified : t.verifiedOf l = true
  stance : t.inStance l = true
  link : (t.link l).link = (s.link l).link
  withdrawn : (t.link l).withdrawn = (s.link l).withdrawn

theorem landed_cmdOf (s : State) (l : Leg) : (s.landed l).cmdOf l =
    { mode := .stance, target := clampPoint s.pls.attemptTarget, clearance := (s.cmdOf l).clearance } :=
  setCmd_cmdOf_self ..

theorem landed_cmdOf_of_ne (s : State) {k : Leg} (h : k ≠ l) : (s.landed l).cmdOf k = s.cmdOf k :=
  setCmd_cmdOf_of_ne _ _ _ _ h

theorem landed_verifiedOf (s : State) (l : Leg) : (s.landed l).verifiedOf l = true := PerLeg.get_set_self ..

theorem landed_link (s : State) (l k : Leg) : ((s.landed l).link k).link = (s.link k).link := setCmd_linkState ..

theorem landed_withdrawn (s : State) (l k : Leg) : ((s.landed l).link k).withdrawn = (s.link k).withdrawn :=
  setCmd_withdrawn ..

theorem landed_strider (s : State) (l : Leg) : (s.landed l).ssq.uncommanded = s.ssq.uncommanded :=
  setCmd_uncommanded { s with pls.placeTimer := none, pls.reswingTimer := none } l .stance s.pls.attemptTarget
    (s.cmdOf l).clearance

/-- R27: the leg put down belongs to the stance set. -/
theorem landed_derived (hl : (s.link l).link = .ok) (ha : (s.link l).withdrawn = false) :
    (s.landed l).stanceDerived.get l = true := by
  have mode : (s.landed l).modeOf l = .stance := congrArg LegCmd.mode (landed_cmdOf s l)
  simp [stanceDerived, mode, landed_verifiedOf, linkOk, landed_link, hl, State.admitted, landed_withdrawn, ha]

/-- R27: what the change of the stance set leaves, before any test. -/
theorem restanced_leaves (hp : s.rxu.pending = []) :
    let t := s.stanceUpdateWith fun t => t
    t.pc = s.pc ∧ t.rxu = s.rxu ∧ t.ssq = s.ssq ∧ t.pls = s.pls ∧ t.fhq = s.fhq ∧ t.llc = s.llc ∧
      t.scu.sway = s.scu.sway ∧ t.scu.attStale = s.scu.attStale ∧ t.scu.stance = s.stanceDerived := by
  dsimp only
  rcases stanceUpdateWith_cases (fun t => t) s with ⟨current, e⟩ | ⟨-, e⟩ <;> rw [e]
  · exact ⟨rfl, rfl, rfl, rfl, rfl, rfl, rfl, rfl, current.symm⟩
  · exact ⟨restanced_pc s, restanced_rxu hp, restanced_ssq s, restanced_pls s, restanced_fhq s, restanced_llc s,
      restanced_sway s, (congrArg Sampling.attStale (restanced_sampled s) :), restanced_stance s⟩

theorem consumedBy_eq (s : State) (l : Leg) : s.consumedBy l = { s with fhq := (s.consumedBy l).fhq } := by
  unfold consumedBy
  split <;> rfl

/-- R102: the queue that the end of a placement leaves is a matter of its entry. -/
theorem consumedBy_fhq {w : State} (fhq : w.fhq = s.fhq) (entry : w.pls.entry = s.pls.entry) :
    (w.consumedBy l).fhq = (s.consumedBy l).fhq := by
  unfold consumedBy
  rw [entry]
  split
  · simp only [consumeHead, fhq]
  · exact fhq

theorem placedDown_eq (s : State) (l : Leg) :
    ∃ hli, s.placedDown l = { s with fhq := (s.consumedBy l).fhq, pls.placement := none, pls.entry := none, hli := hli } := by
  refine ⟨(s.placedDown l).hli, ?_⟩
  unfold placedDown
  rw [postNote_eq]
  rw [consumedBy_eq]

theorem touchedDown_touched (hl : (s.link l).link = .ok) (ha : (s.link l).withdrawn = false) (hp : s.rxu.pending = []) :
    Touched s l ((s.touchedDown l).placedDown l) := by
  have derived := landed_derived hl ha
  obtain ⟨pc, scu, pls, fhq⟩ : (s.landed l).pc = s.pc ∧ (s.landed l).scu = s.scu ∧
      (s.landed l).pls = { s.pls with placeTimer := none, reswingTimer := none } ∧ (s.landed l).fhq = s.fhq :=
    ⟨(setCmd_pc .. :), (setCmd_scu .. :), (setCmd_pls .. :), (setCmd_fhq .. :)⟩
  have rxu := landed_rxu s l
  obtain ⟨pc', rxu', ssq', pls', fhq', llc', sway', stale', stance'⟩ := restanced_leaves (s := s.landed l) (by rw [rxu, hp])
  rw [← touchedDown] at pc' rxu' ssq' pls' fhq' llc' sway' stale' stance'
  obtain ⟨hli, e⟩ := placedDown_eq (s.touchedDown l) l
  have cmd (k : Leg) : (s.touchedDown l).cmdOf k = (s.landed l).cmdOf k := by rw [cmdOf, ssq']; rfl
  have linked : (s.touchedDown l).link l = (s.landed l).link l := by rw [link, llc']; rfl
  rw [e]
  exact {
    pc := pc'.trans pc
    rxu := rxu'.trans rxu
    strider := (congrArg Strider.uncommanded ssq').trans (landed_strider s l)
    placement := rfl
    reseat := (congrArg Placer.reseat (pls'.trans pls) :)
    fhq := consumedBy_fhq (fhq'.trans fhq) (congrArg Placer.entry (pls'.trans pls) :)
    sway := sway'.trans (by rw [scu])
    stale := stale'.trans (by rw [scu])
    cmd := (cmd l).trans (landed_cmdOf s l)
    others := fun k hk => (cmd k).trans (landed_cmdOf_of_ne s hk)
    verified := (congrArg (fun x : Strider => x.verified.get l) ssq' :).trans (landed_verifiedOf s l)
    stance := (congrArg (PerLeg.get · l) stance' :).trans derived
    link := (congrArg Link.link linked).trans (landed_link s l l)
    withdrawn := (congrArg Link.withdrawn linked).trans (landed_withdrawn s l l) }

/-! ### What follows -/

/-- A leg put down by a walk that nothing holds up is on the ground. -/
theorem Touched.grounded {t : State} (h : Touched s l t) (on : Onward t) (hl : (s.link l).link = .ok)
    (ha : (s.link l).withdrawn = false) : t.watched.Grounded l where
  standing := by rw [State.watched, on.body]; rfl
  mode := (congrArg LegCmd.mode h.cmd :)
  link := h.link.trans hl
  admitted := h.withdrawn.trans ha
  tied := h.stance.trans h.verified.symm
  free := on.free
  settled := on.waiting
  depth := by
    simp only [Watched.depth, State.watched, on.stack, on.clear, List.length_nil, true_and, if_true]
    split <;> decide
  running := fun q hq => by cases on.running.symm.trans hq
  stack := fun q hq => by
    have none : .recover q ∈ t.rxu.stack := hq
    rw [on.stack] at none
    cases none
  placement := fun he => by cases h.placement.symm.trans he

/-- R77: the test of TIP that a placement ends with, and what follows where it takes nothing. -/
def afterPlaced (s : State) : State := if s.tipTest.undisturbed then s.tipTest.placedVerified else s.tipTest

/-- R61, R52: what follows a placement of the walk. -/
theorem afterPlaced_cases (on : Onward s) :
    (∃ condition raised, s.afterPlaced =
      State.boundary { s with scu.tipCondition := condition, scu.tipRaised := raised } .placed) ∨
      (s.afterPlaced = s.tipTest ∧ s.tipTest.rxu.crouch ≠ .clear) := by
  unfold afterPlaced
  by_cases clear : s.tipTest.rxu.crouch = .clear
  · obtain ⟨condition, raised, e⟩ := tipTest_marks on.room on.free clear
    have still : Onward { s with scu.tipCondition := condition, scu.tipRaised := raised } := on.frame rfl rfl rfl rfl rfl
    refine .inl ⟨condition, raised, ?_⟩
    rw [e, if_pos (by simp [undisturbed, on.free, on.clear]), placedVerified, still.owner]
  · exact .inr ⟨if_neg (by simp [undisturbed, clear]), clear⟩

/-- R61: the move of a PROPEL. -/
def propelled (s : State) (p : Point) : Point :=
  ⟨p.x - s.ssq.dir.sign * s.ssq.latched.effective.tdiv 4 + s.scu.sway.x, p.y + s.scu.sway.y, p.z⟩

theorem beginPropel_effect (s : State) :
    s.beginPropel.ssq.phase = .propel ∧ s.beginPropel.ssq.phaseTimer = some 0 ∧
      s.beginPropel.ssq.quarter = s.ssq.dir.sign * s.ssq.latched.effective.tdiv 4 ∧
      (∀ k, s.beginPropel.cmdOf k = s.movedCmd s.propelled k) ∧ s.beginPropel.pls = s.pls ∧
      s.beginPropel.fhq = s.fhq ∧ s.beginPropel.rxu = s.rxu := by
  have parts : s.beginPropel = moveStance { s with
      ssq.phase := .propel, ssq.phaseTimer := some 0,
      ssq.quarter := s.ssq.dir.sign * s.ssq.latched.effective.tdiv 4 } s.propelled := rfl
  rw [parts]
  refine ⟨?_, ?_, ?_, fun k => moveStance_cmdOf _ _ k, ?_, ?_, moveStance_rxu ..⟩
  · rw [moveStance_ssq]
  · rw [moveStance_ssq]
  · rw [moveStance_ssq]
  · exact (moveStance_commanded (w := none) _ _).pls
  · simp

/-- R52, R61: the boundary after a placement. -/
theorem boundary_placed (on : Onward s) (placed : s.pls.placement = none) :
    (s.boundary .placed).pls.placement = none ∧
      ((s.boundary .placed).rxu.crouch = .clear → (s.boundary .placed).fhq = s.fhq ∧
        ((s.boundary .placed).tdu.body < 3 → s.boundary .placed = s.beginPropel)) := by
  rw [on.boundary_eq]
  split
  · rename_i hot
    have held := heldAt_held on.body .placed
    have room : (s.heldAt .placed).rxu.stack.length < 4 := by rw [held.rxu]; exact on.room
    obtain ⟨-, -, placement, -⟩ := tipTest_leaves room
    rw [on.holdAtBoundary_eq]
    refine ⟨placement.elim (fun h => h.trans (by rw [held.pls, placed])) id, fun clear => ?_⟩
    obtain ⟨condition, raised, e⟩ := tipTest_marks room (by rw [held.protect, on.free]) clear
    rw [e]
    refine ⟨held.fhq, fun cool => absurd hot (Nat.not_le.mpr ?_)⟩
    rw [← held.tdu]
    exact cool
  · obtain ⟨-, -, -, -, pls, fhq, -⟩ := beginPropel_effect s
    exact ⟨(congrArg Placer.placement pls).trans placed, fun _ => ⟨fhq, fun _ => rfl⟩⟩

/-- R77, R61: what the walk makes of a leg that it has put down. -/
theorem afterPlaced_outcome (on : Onward s) (placed : s.pls.placement = none) :
    s.afterPlaced.pls.placement = none ∧
      (s.afterPlaced.rxu.crouch = .clear → s.afterPlaced.fhq = s.fhq ∧
        (s.afterPlaced.tdu.body < 3 → s.afterPlaced.ssq.phase = .propel ∧ s.afterPlaced.ssq.phaseTimer = some 0 ∧
          s.afterPlaced.ssq.quarter = s.ssq.dir.sign * s.ssq.latched.effective.tdiv 4 ∧
          ∀ k, s.afterPlaced.cmdOf k = s.movedCmd s.propelled k)) := by
  rcases afterPlaced_cases on with ⟨condition, raised, e⟩ | ⟨e, taken⟩ <;> rw [e]
  · have still : Onward { s with scu.tipCondition := condition, scu.tipRaised := raised } := on.frame rfl rfl rfl rfl rfl
    obtain ⟨placement, goes⟩ := boundary_placed still placed
    refine ⟨placement, fun clear => ?_⟩
    obtain ⟨fhq, propels⟩ := goes clear
    refine ⟨fhq, fun cool => ?_⟩
    obtain ⟨phase, timer, quarter, cmd, -⟩ :=
      beginPropel_effect { s with scu.tipCondition := condition, scu.tipRaised := raised }
    rw [propels cool]
    exact ⟨phase, timer, quarter, cmd⟩
  · obtain ⟨-, -, placement, -⟩ := tipTest_leaves on.room
    exact ⟨placement.elim (fun h => h.trans placed) id, fun clear => absurd clear taken⟩

/-- R77: the leg stays on the ground in whatever follows. -/
theorem afterPlaced_kept (on : Onward s) : Keeps (some l) false s s.afterPlaced := by
  rcases afterPlaced_cases on with ⟨condition, raised, e⟩ | ⟨e, -⟩ <;> rw [e]
  · have marked : Keeps (some l) false s { s with scu.tipCondition := condition, scu.tipRaised := raised } := .frame rfl
    exact marked.trans (boundary_kept (by decide) nofun)
  · exact tipTest_kept s

/-- R77, R102: the entry of a placement that is verified. -/
theorem consumedBy_entries {e : Foothold} {rest : List Foothold} (inUse : s.pls.entry.isSome = true)
    (he : (s.queueOf l).entries = e :: rest) :
    (PerLeg.get (s.consumedBy l).fhq l).entries = rest ∧ (PerLeg.get (s.consumedBy l).fhq l).consumed = some e.tag := by
  have found : (s.consumedBy l).queueOf l = { s.queueOf l with entries := rest, consumed := some e.tag } := by
    unfold consumedBy
    rw [if_pos inUse]
    refine (PerLeg.get_modify_self ..).trans ?_
    show (match (s.queueOf l).entries with
      | e :: rest => { s.queueOf l with entries := rest, consumed := some e.tag }
      | [] => s.queueOf l) = _
    rw [he]
  exact ⟨congrArg FootholdQueue.entries found, congrArg FootholdQueue.consumed found⟩

/-- R77, R61: the report that verifies an attempt of the walk. -/
theorem report_verifies (hr : reports s l record r) (hplace : s.pls.placement = some l) (hsub : s.pls.sub = .lower)
    (hmode : s.modeOf l = .placing) (hphase : s.ssq.phase = .place) (hwalk : walksOn s) (hlift : s.rxu.liftTimer = none)
    (hforce : (s.pls.entry.bind Foothold.contact).getD s.pls.surface.contact ≤ r.force)
    (hnear : ((r.x - s.pls.attemptTarget.x).natAbs + (r.y - s.pls.attemptTarget.y).natAbs : Int) ≤ s.pls.surface.tolerance) :
    ∃ t, exec (.legReportArrival l record) s = .next t ∧ t.pls.placement = none ∧ t.modeOf l = .stance ∧
      t.verifiedOf l = true ∧ t.inStance l = true ∧
      (t.rxu.crouch = .clear →
        (∀ e rest, s.pls.entry.isSome = true → (s.queueOf l).entries = e :: rest →
          (t.queueOf l).entries = rest ∧ (t.queueOf l).consumed = some e.tag) ∧
        (s.pls.entry = none → t.fhq = s.fhq) ∧
        (t.tdu.body < 3 →
          let quarter := (if s.ssq.dir = .forward then 1 else -1) * s.ssq.latched.effective.tdiv 4
          let moved := fun p : Point => clampPoint ⟨p.x - quarter + s.scu.sway.x, p.y + s.scu.sway.y, p.z⟩
          t.ssq.phase = .propel ∧ t.ssq.phaseTimer = some 0 ∧ t.ssq.quarter = quarter ∧
            (t.cmdOf l).target = moved (clampPoint s.pls.attemptTarget) ∧
            (∀ k, k ≠ l → s.modeOf k = .stance → (t.cmdOf k).target = moved (s.cmdOf k).target) ∧
            (∀ k, k ≠ l → s.modeOf k ≠ .stance → t.cmdOf k = s.cmdOf k))) := by
  obtain ⟨links, told⟩ := reports_acts hr
  obtain ⟨-, -, ok, admits, -, -, -, -, free, clear, current⟩ := id hr
  have on : Onward s := onward_of_walksOn hwalk free clear
  obtain ⟨u, heard, scu, set, acted⟩ :=
    waits_of_aside hr (aside_of_mode current (by rw [hmode]; decide)) (by rw [on.body]; rfl)
  have waits : s.waitingOn l = .placement := by
    unfold waitingOn
    simp [free, clear, hlift, hphase, hplace]
  have threshold : u.placeThreshold = (s.pls.entry.bind Foothold.contact).getD s.pls.surface.contact := by
    unfold placeThreshold
    rw [heard.pls]
    cases s.pls.entry.bind Foothold.contact <;> rfl
  have verified : u.waitingReport l r .placement = u.placeVerified l := by
    have judges : u.judges r = true := by simp [judges, threshold, hforce]
    have verifies : u.verifies r = true := by
      rw [State.verifies, threshold, heard.pls]
      exact decide_eq_true ⟨hforce, hnear⟩
    rw [waitingReport, placeReport, heard.pls, hsub]
    simp [judges, verifies]
  have touched := touchedDown_touched (l := l) ((heard.link l).trans ok) ((heard.withdrawn l).trans admits)
    (by rw [heard.rxu, on.pending])
  rw [waits, verified, placeVerified_eq, ← afterPlaced] at acted
  generalize (u.touchedDown l).placedDown l = y at *
  have onY : Onward y := on.frame (touched.pc.trans heard.pc) (touched.rxu.trans heard.rxu)
    (touched.reseat.trans (by rw [heard.pls]))
    ((congrArg Strider.stopMark touched.strider :).trans (by rw [heard.ssq]; rfl)) (touched.stale.trans (by rw [scu]))
  obtain ⟨placement, goes⟩ := afterPlaced_outcome onY touched.placement
  obtain ⟨grounded, verifiedOf, -⟩ := (afterPlaced_kept onY).leg l rfl
    (touched.grounded onY ((heard.link l).trans ok) ((heard.withdrawn l).trans admits))
  rw [← acted] at placement goes grounded verifiedOf
  have verifies := verifiedOf.trans touched.verified
  refine ⟨_, told, placement, grounded.mode, verifies, grounded.tied.trans verifies, fun h => ?_⟩
  obtain ⟨fhq, propels⟩ := goes h
  have queues : (s.actedBy l r).fhq = (s.consumedBy l).fhq :=
    fhq.trans (touched.fhq.trans (consumedBy_fhq heard.fhq (by rw [heard.pls])))
  have dir : y.ssq.dir = s.ssq.dir := (congrArg Strider.dir touched.strider :).trans (by rw [heard.ssq]; rfl)
  have latched : y.ssq.latched = s.ssq.latched := (congrArg Strider.latched touched.strider :).trans (by rw [heard.ssq]; rfl)
  have sign : s.ssq.dir.sign = if s.ssq.dir = .forward then 1 else -1 := by cases s.ssq.dir <;> rfl
  have sway : y.scu.sway = s.scu.sway := touched.sway.trans (by rw [scu])
  refine ⟨fun e rest inUse entries => ?_, fun none => ?_, fun cool => ?_⟩
  · have found := consumedBy_entries inUse entries
    rw [← queues] at found
    exact found
  · refine queues.trans ?_
    unfold consumedBy
    rw [none]
    rfl
  · obtain ⟨phase, timer, quarter, cmd⟩ := propels cool
    rw [dir, latched, sign] at quarter
    have moves (p : Point) : y.propelled p =
        ⟨p.x - (if s.ssq.dir = .forward then 1 else -1) * s.ssq.latched.effective.tdiv 4 + s.scu.sway.x,
          p.y + s.scu.sway.y, p.z⟩ := by
      rw [propelled, dir, latched, sway, sign]
    have others (k : Leg) (hk : k ≠ l) : y.cmdOf k = s.cmdOf k :=
      (touched.others k hk).trans (congrArg (fun x : Strider => x.cmd.get k) heard.ssq)
    refine ⟨phase, timer, quarter, ?_, fun k hk ground => ?_, fun k hk air => ?_⟩
    · have put := cmd l
      rw [movedCmd, if_pos (show y.modeOf l = .stance from congrArg LegCmd.mode touched.cmd), touched.cmd, moves,
        heard.pls] at put
      exact (congrArg LegCmd.target put :)
    · have moved := cmd k
      rw [movedCmd, modeOf, others k hk, if_pos (show (s.cmdOf k).mode = .stance from ground), moves] at moved
      exact (congrArg LegCmd.target moved :)
    · have still := cmd k
      rw [movedCmd, modeOf, others k hk, if_neg (show (s.cmdOf k).mode ≠ .stance from air)] at still
      exact still

end State
end Sys2Proof.Machine
end


section
/-! ## The end of a PROPEL (R62, R63) -/

namespace Sys2Proof.Machine

namespace State

variable {s t u q : State} {l : Leg} {r : Report} {record : List Byte}

/-! ### The step that ends -/

/-- R62: the odometer at the end of a PROPEL. -/
def odometerAfter (s : State) : Nat := (max 0 (min 16777215 (s.ssq.odometer + s.ssq.quarter))).toNat

/-- R62: the quarter added and the zone looked up, the sway returned; the notes are those of `hli`. -/
def advanced (s : State) (hli : HostLink) : State :=
  { s with ssq.phaseTimer := none, ssq.odometer := s.odometerAfter,
           ztb.inForce := lookupIn s.ztb.entries s.odometerAfter, scu.sway := ⟨0, 0⟩, hli := hli }

/-- R62, R63: a PROPEL that is the last of its walk, and one that is not. -/
theorem propelComplete_eq (s : State) :
    ∃ hli, s.propelComplete =
      if (s.advanced hli).lastStep then ((s.advanced hli).endStep.walkOver .done).bodySettled s.pc.body
      else (s.advanced hli).endStep.afterStep.boundary (.propel (s.ssq.index == 4)) := by
  have looked : ∃ hli, ({ State.zoneLookup { s with ssq.phaseTimer := none, ssq.odometer := s.odometerAfter } .propel with
      scu.sway := Pair.zero } : State) = s.advanced hli := by
    rw [zoneLookup_eq]
    dsimp only
    split
    · exact ⟨s.hli, rfl⟩
    · rw [postNote_eq]
      exact ⟨_, rfl⟩
  obtain ⟨hli, e⟩ := looked
  have parts : s.propelComplete =
      let p := ({ State.zoneLookup { s with ssq.phaseTimer := none, ssq.odometer := s.odometerAfter } .propel with
        scu.sway := Pair.zero } : State)
      if p.lastStep then (p.endStep.walkOver .done).bodySettled p.pc.body
      else p.endStep.afterStep.boundary (.propel (p.ssq.index == 4)) := rfl
  refine ⟨hli, ?_⟩
  rw [parts, e]
  rfl

theorem Onward.advanced (on : Onward s) (hli : HostLink) : Onward (s.advanced hli) := on.frame rfl rfl rfl rfl rfl

/-- R62, R63: what the end of a step makes of the walk. -/
structure Completed (s t : State) : Prop where
  odometer : t.ssq.odometer = s.odometerAfter
  sway : t.scu.sway = ⟨0, 0⟩
  zone : t.ztb.inForce = lookupIn s.ztb.entries t.ssq.odometer
  step : s.ssq.index ≠ 4 → t.ssq.index = s.ssq.index + 1 ∧ t.ssq.count = s.ssq.count ∧
    (t.tdu.body < 3 → t.ssq.phase = .shift ∧ t.ssq.phaseTimer = some 0 ∧
      t.ssq.stepping = some (s.ssq.order.nth (s.ssq.index + 1)))
  stride : s.ssq.index = 4 → t.ssq.count = s.ssq.count - 1 ∧ t.ssq.index = 1 ∧
    (s.ssq.count ≤ 1 → t.pc.body = .stand ∧ t.ssq.phase = .idle ∧ t.ssq.stepping = none ∧ t.ssq.next = none) ∧
    (1 < s.ssq.count → t.tdu.body < 2 → t.ssq.phase = .shift ∧ t.ssq.stepping = some t.ssq.order.first) ∧
    (1 < s.ssq.count → t.tdu.body = 2 → t.ssq.phase = .pause ∧ t.ssq.stepping = none)

/-- The marks of a test that takes nothing are no part of it. -/
theorem Completed.marked {condition raised : Bool} (h : Completed s t) :
    Completed s { t with scu.tipCondition := condition, scu.tipRaised := raised } :=
  ⟨h.odometer, h.sway, h.zone, h.step, h.stride⟩

/-- A test of TIP that leaves no CROUCH leaves it so. -/
theorem Completed.tested (h : Completed s t) (room : t.rxu.stack.length < 4) (free : t.pc.protect = false)
    (clear : t.tipTest.rxu.crouch = .clear) : Completed s t.tipTest := by
  obtain ⟨condition, raised, e⟩ := tipTest_marks room free clear
  rw [e]
  exact h.marked

theorem endStep_blocks (s : State) :
    s.endStep.pc = s.pc ∧ s.endStep.rxu = s.rxu ∧ s.endStep.scu = s.scu ∧ s.endStep.ztb = s.ztb := by
  rw [endStep_eq]
  exact ⟨rfl, rfl, rfl, rfl⟩

theorem heldAt_propel (on : Onward s) (e : Bool) :
    (s.heldAt (.propel e)).ssq.odometer = s.ssq.odometer ∧ (s.heldAt (.propel e)).ssq.index = s.ssq.index ∧
      (s.heldAt (.propel e)).ssq.count = s.ssq.count := by
  obtain ⟨hli, noted⟩ := postHoldFaults_eq s
  have ssq : s.postHoldFaults.ssq = s.ssq := by rw [noted]
  have body : s.postHoldFaults.pc.body = .walk := by rw [noted]; exact on.body
  have held : s.heldAt (.propel e) = s.postHoldFaults.enterHold
      ⟨s.postHoldFaults.ssq.stepping.getD s.postHoldFaults.ssq.order.first, s.postHoldFaults.ssq.index⟩ .fault := rfl
  rw [held, enterHold_eq (line := s.postHoldFaults) body rfl, ← ssq]
  exact ⟨rfl, rfl, rfl⟩

/-- R62: the last step of a walk ends. -/
theorem walk_completed (on : Onward s) (four : s.ssq.index = 4) (last : s.ssq.count ≤ 1) (hli : HostLink)
    (clear : (((s.advanced hli).endStep.walkOver .done).bodySettled s.pc.body).rxu.crouch = .clear) :
    Completed s (((s.advanced hli).endStep.walkOver .done).bodySettled s.pc.body) := by
  obtain ⟨pc, rxu, scu, ztb⟩ := endStep_blocks (s.advanced hli)
  have ssq : (s.advanced hli).endStep.ssq = { (s.advanced hli).ssq with index := 1, count := s.ssq.count - 1 } := by
    rw [endStep_of_four (s := s.advanced hli) four, postNote_ssq]
    rfl
  generalize (s.advanced hli).endStep = e at *
  have body : e.pc.body = .walk := by rw [pc]; exact on.body
  have held := walkOver_held body .done
  have room : (e.walkOver .done).rxu.stack.length < 4 := by rw [held.rxu, rxu]; exact on.room
  rw [bodySettled_tests (b := s.pc.body) (by rw [on.body]; exact held.body) room
    (by rw [held.rxu, rxu]; exact on.waiting)] at clear ⊢
  refine Completed.tested ?_ room (by rw [held.protect, pc]; exact on.free) clear
  rw [walkOver_eq (line := e) body rfl, ssq, scu, ztb]
  exact {
    odometer := rfl
    sway := rfl
    zone := rfl
    step := fun off => absurd four off
    stride := fun _ => ⟨rfl, rfl, fun _ => ⟨rfl, rfl, rfl, rfl⟩, fun more => absurd more (by omega),
      fun more => absurd more (by omega)⟩ }

/-- What R62 and R63 make of the walk's own state before its boundary. -/
structure Stepped (s n : State) : Prop where
  on : Onward n
  odometer : n.ssq.odometer = s.odometerAfter
  sway : n.scu.sway = ⟨0, 0⟩
  zone : n.ztb.inForce = lookupIn s.ztb.entries n.ssq.odometer
  step : s.ssq.index ≠ 4 → n.ssq.index = s.ssq.index + 1 ∧ n.ssq.count = s.ssq.count ∧ n.ssq.order = s.ssq.order
  stride : s.ssq.index = 4 → n.ssq.count = s.ssq.count - 1 ∧ n.ssq.index = 1

theorem stepped_afterStep (on : Onward s) (hli : HostLink) : Stepped s (s.advanced hli).endStep.afterStep := by
  obtain ⟨pc, rxu, scu, ztb⟩ := endStep_blocks (s.advanced hli)
  have pls : (s.advanced hli).endStep.pls = s.pls := by rw [endStep_eq]; rfl
  by_cases four : s.ssq.index = 4
  · have ssq : (s.advanced hli).endStep.ssq = { (s.advanced hli).ssq with index := 1, count := s.ssq.count - 1 } := by
      rw [endStep_of_four (s := s.advanced hli) four, postNote_ssq]
      rfl
    generalize (s.advanced hli).endStep = e at *
    unfold afterStep
    exact {
      on := on.frame pc rxu (congrArg Placer.reseat pls) (congrArg Strider.stopMark ssq :) (congrArg Support.attStale scu :)
      odometer := (congrArg Strider.odometer ssq :)
      sway := (congrArg Support.sway scu :)
      zone := by
        show e.ztb.inForce = lookupIn s.ztb.entries e.ssq.odometer
        rw [ztb, ssq]
        rfl
      step := fun off => absurd four off
      stride := fun _ => ⟨(congrArg Strider.count ssq :), (congrArg Strider.index ssq :)⟩ }
  · have ended : (s.advanced hli).endStep = { s.advanced hli with ssq.index := s.ssq.index + 1 } :=
      endStep_of_ne (s := s.advanced hli) four
    rw [ended]
    exact ⟨on.frame rfl rfl rfl rfl rfl, rfl, rfl, rfl, fun _ => ⟨rfl, rfl, rfl⟩, fun h => absurd h four⟩

/-- R52, R64: the boundary after a step that is not the last of its walk. -/
theorem Stepped.completed {n : State} (h : Stepped s n) (more : ¬ (s.ssq.index = 4 ∧ s.ssq.count ≤ 1))
    (clear : (n.boundary (.propel (s.ssq.index == 4))).rxu.crouch = .clear) :
    Completed s (n.boundary (.propel (s.ssq.index == 4))) := by
  obtain ⟨on, odometer, sway, zone, step, stride⟩ := h
  rw [on.boundary_eq] at clear ⊢
  by_cases hot : 3 ≤ n.tdu.body
  · rw [if_pos hot, on.holdAtBoundary_eq] at clear ⊢
    have held := heldAt_held on.body (.propel (s.ssq.index == 4))
    obtain ⟨odometer', index', count'⟩ := heldAt_propel on (s.ssq.index == 4)
    have cool : ¬ (n.heldAt (.propel (s.ssq.index == 4))).tdu.body < 3 := by rw [held.tdu]; omega
    refine Completed.tested ?_ (by rw [held.rxu]; exact on.room) (by rw [held.protect, on.free]) clear
    exact {
      odometer := odometer'.trans odometer
      sway := held.sway.trans sway
      zone := by rw [held.ztb, odometer', zone]
      step := fun off => ⟨index'.trans (step off).1, count'.trans (step off).2.1, fun h => absurd h cool⟩
      stride := fun four => ⟨count'.trans (stride four).1, index'.trans (stride four).2, fun last => absurd ⟨four, last⟩ more,
        fun _ h => absurd h (by omega), fun _ h => absurd h (by omega)⟩ }
  · rw [if_neg hot]
    by_cases four : s.ssq.index = 4
    · obtain ⟨count, index⟩ := stride four
      have goes : n.goOn (.propel (s.ssq.index == 4)) = if n.tdu.body = 2 then n.beginPause else n.beginStride := by
        simp [goOn, four]
      rw [goes]
      split
      · rename_i warm
        exact ⟨odometer, sway, zone, fun off => absurd four off, fun _ => ⟨count, index, fun last => absurd ⟨four, last⟩ more,
          fun _ cool => absurd cool (by rw [show n.beginPause.tdu = n.tdu from rfl]; omega), fun _ _ => ⟨rfl, rfl⟩⟩⟩
      · rename_i warm
        rw [beginStride_eq]
        exact ⟨odometer, sway, zone, fun off => absurd four off, fun _ => ⟨count, rfl, fun last => absurd ⟨four, last⟩ more,
          fun _ _ => ⟨rfl, rfl⟩, fun _ h => absurd h warm⟩⟩
    · obtain ⟨index, count, order⟩ := step four
      have goes : n.goOn (.propel (s.ssq.index == 4)) = n.beginStepShift (n.ssq.order.nth n.ssq.index) n.ssq.index := by
        simp [goOn, four]
      rw [goes, beginStepShift_eq, beginStepShift_ssq]
      exact ⟨odometer, sway, zone, fun _ => ⟨index, count, fun _ => ⟨rfl, rfl, by rw [index, order]⟩⟩,
        fun h => absurd h four⟩

theorem propelComplete_outcome (on : Onward s) (clear : s.propelComplete.rxu.crouch = .clear) :
    Completed s s.propelComplete := by
  obtain ⟨hli, e⟩ := propelComplete_eq s
  have last : ((s.advanced hli).lastStep = true) = (s.ssq.index = 4 ∧ s.ssq.count ≤ 1) :=
    propext decide_eq_true_iff
  rw [e] at clear ⊢
  simp only [last] at clear ⊢
  split at clear
  · rename_i h
    rw [if_pos h]
    exact walk_completed on h.1 h.2 hli clear
  · rename_i h
    rw [if_neg h]
    exact (stepped_afterStep on hli).completed h clear

end State
end Sys2Proof.Machine
end


section
/-! ## The report that settles a PROPEL -/

namespace Sys2Proof.Machine

namespace State

variable {s t u q : State} {l : Leg} {r : Report} {record : List Byte}

/-! ### A CROUCH that the report begins -/

/-- R84, R155: what a CROUCH that has just been taken leaves of what was under way. -/
theorem tipTest_stoodAside (on : Onward s) (taken : s.tipTest.rxu.crouch ≠ .clear) :
    s.tipTest.rxu.running = some crouchReflex ∧ s.tipTest.rxu.liftTimer = none ∧ s.tipTest.ssq.phase = .idle ∧
      s.tipTest.pls.placement = none ∧ s.tipTest.pc = { s.pc with body := .recover } := by
  rcases tipTest_cases_of_room on.room with ⟨condition, raised, e⟩ | ⟨noted | noted, -⟩ | e
  · rw [e] at taken
    exact absurd on.clear taken
  · cases on.free.symm.trans noted
  · exact absurd on.clear noted
  · rw [e]
    have rxu := crouchAll_rxu s.tipped
    have ssq := crouchAll_uncommanded s.tipped
    refine ⟨(congrArg Reflexes.running rxu :), (congrArg Reflexes.liftTimer rxu :), (congrArg Strider.phase ssq :),
      (congrArg Placer.placement (crouchAll_pls s.tipped) :), ?_⟩
    rw [beginCrouch_pc]
    rfl

/-- R165: after a CROUCH that the report began, no operation but the CROUCH's own goes on. -/
theorem operationReport_crouches (hrun : s.rxu.running = some crouchReflex) (hlift : s.rxu.liftTimer = none)
    (hphase : s.ssq.phase = .idle) (hplace : s.pls.placement = none) (hb : s.pc.body.standing = true)
    (hf : s.pc.awaitFirst.get l = false) (taken : s.rxu.crouch ≠ .clear) :
    (s.operationReport l r).rxu.crouch ≠ .clear := by
  rw [operationReport_eq hb hf]
  have calibrated := calibReport_calibrated s l r
  generalize s.calibReport l r = u at calibrated
  have still : u.rxu.crouch ≠ .clear := by rw [calibrated.rxu]; exact taken
  rcases waitingOn_cases s l with ⟨e, -⟩ | ⟨-, lifts, -⟩ | ⟨-, swings, -⟩ | ⟨-, places⟩ | ⟨e, -⟩ | e
  · rw [e, waitingReport]
    split
    · simp [crouched]
    · exact still
  · rw [hlift] at lifts
    cases lifts
  · cases hphase.symm.trans swings
  · cases hplace.symm.trans places
  · rw [e, waitingReport]
    unfold settleWaiters
    rw [calibrated.rxu, hrun]
    split
    · exact still
    · exact still
  · rw [e]
    exact still

/-! ### The Slip Monitor -/

/-- R130, R131: a deviation within the threshold writes the windows alone, with nothing pending. -/
theorem slipReport_within (hin : s.inStance l = true) (hb : s.pc.body.standing = true)
    (hforce : s.zone.surface.unloadLimit ≤ r.force) (hd : s.deviation l r ≤ s.slipThreshold) (hp : s.rxu.pending = []) :
    ∃ slm, s.slipReport l r = { s with slm := slm } := by
  have found : ((s.steadied l r).counted l 0) = { s with slm := ((s.steadied l r).counted l 0).slm } := by
    unfold counted
    rw [steadied_blocks]
  have reported : s.slipReport l r = ((s.steadied l r).counted l 0).judgedSlip l r := by
    have zone : (s.steadied l r).zone = s.zone := by rw [steadied_blocks]; rfl
    rw [slipReport_of_stance hin hb, stanceReport_eq, zone, if_neg (Int.not_lt.mpr hforce)]
  generalize ((s.steadied l r).counted l 0) = v at found reported
  have within : v.deviation l r ≤ v.slipThreshold := by
    rw [found]
    exact hd
  rw [reported]
  by_cases steady : (v.slipOf l).steady = true
  · have ended : v.judgedSlip l r = (v.recorded l (v.deviation l r)).endSlip l := by
      rw [judgedSlip_eq steady, slipTest_within within]
      rfl
    have blocks := recorded_blocks v l (v.deviation l r)
    generalize v.recorded l (v.deviation l r) = w at ended blocks
    have rxu : w.rxu = s.rxu := by rw [blocks, found]
    have none : (w.endSlip l).rxu.pending = s.rxu.pending := by
      have empty := endSlip_sublist w l
      rw [rxu, hp] at empty
      rw [List.sublist_nil.mp empty, hp]
    refine ⟨(w.endSlip l).slm, ?_⟩
    rw [ended, endSlip_blocks, none, blocks, found]
  · unfold judgedSlip
    rw [if_neg steady]
    exact ⟨_, found⟩

/-! ### The end of a PROPEL -/

/-- R26: the state in which the report of a leg of the stance set, its deviation within the threshold, is tested for TIP. -/
theorem reckoned_within (hr : reports s l record r) (hin : s.inStance l = true) (hb : s.pc.body.standing = true)
    (hforce : s.zone.surface.unloadLimit ≤ r.force)
    (hd : (r.x - (s.cmdOf l).target.x).natAbs + (r.y - (s.cmdOf l).target.y).natAbs ≤ s.slipThreshold)
    (hp : s.rxu.pending = []) :
    ∃ v, Heard s l r v ∧ v.scu.stance = s.scu.stance ∧ v.scu.attStale = s.scu.attStale ∧
      ((s.warmedBy l r).slipReport l r).reckoned l = v.tipTest := by
  obtain ⟨-, -, ok, -⟩ := hr
  have stance : (s.warmedBy l r).inStance l = true := by rw [inStance, warmedBy_scu]; exact hin
  have within : (s.warmedBy l r).deviation l r ≤ (s.warmedBy l r).slipThreshold := by
    rw [warmedBy_deviation, warmedBy_threshold]
    exact (Nat.min_le_right ..).trans hd
  obtain ⟨slm, e⟩ := slipReport_within (r := r) stance (by rw [warmedBy_pc]; exact hb) (by rw [warmedBy_zone]; exact hforce)
    within (by rw [warmedBy_rxu]; exact hp)
  have heard := warmedBy_hears ok r
  have scu := warmedBy_scu s l r
  generalize s.warmedBy l r = q at *
  rw [e]
  refine ⟨({ q with slm := slm } : State).recompute, { heard with }, ?_, ?_, if_pos stance⟩
  · exact (congrArg Support.stance scu :)
  · exact (congrArg Support.attStale scu :)

/-- R54: the stance legs on their targets, once the report is the last of its leg. -/
theorem Heard.settled (h : Heard s l r q) (stance : q.scu.stance = s.scu.stance)
    (hx : (r.x - (s.cmdOf l).target.x).natAbs ≤ 5) (hy : (r.y - (s.cmdOf l).target.y).natAbs ≤ 5)
    (hz : (r.z - (s.cmdOf l).target.z).natAbs ≤ 5)
    (others : ∀ k, k ≠ l → s.inStance k = true → ((s.footOf k).x - (s.cmdOf k).target.x).natAbs ≤ 5 ∧
      ((s.footOf k).y - (s.cmdOf k).target.y).natAbs ≤ 5 ∧ ((s.footOf k).z - (s.cmdOf k).target.z).natAbs ≤ 5) :
    q.settled = true := by
  refine settled_of_onTarget fun k hk => ?_
  have cmd : q.cmdOf k = s.cmdOf k := congrArg (fun x : Strider => x.cmd.get k) h.ssq
  rw [cmd]
  by_cases hl : k = l
  · subst hl
    rw [footOf, h.last]
    exact ⟨hx, hy, hz⟩
  · have foot : q.footOf k = s.footOf k := by
      unfold footOf
      rw [h.others k hl]
    rw [foot]
    exact others k hl (by rw [inStance, ← stance]; exact hk)

/-- R62: the settled report of a walk in PROPEL completes it. -/
theorem settled_completes (on : Onward q) (hphase : q.ssq.phase = .propel) (hplace : q.pls.placement = none)
    (hin : q.inStance l = true) (hf : q.pc.awaitFirst.get l = false)
    (settled : (q.calibReport l r).settled = true) :
    q.operationReport l r = (q.calibReport l r).propelComplete := by
  have waits : q.waitingOn l = .settle := by
    unfold waitingOn
    simp [on.free, on.clear, on.running, hphase, hplace, hin]
  have calibrated := calibReport_calibrated q l r
  rw [operationReport_eq (by rw [on.body]; rfl) hf, waits, waitingReport, settleWaiters, settled, calibrated.pc, on.free,
    if_pos (by decide), calibrated.rxu, on.running, calibrated.ssq, hphase]

/-- R62, R63: the report that settles a PROPEL. -/
theorem report_ends_propel (hr : reports s l record r) (hphase : s.ssq.phase = .propel) (hin : s.inStance l = true)
    (hwalk : walksOn s) (hplace : s.pls.placement = none) (hforce : s.zone.surface.unloadLimit ≤ r.force)
    (hd : (r.x - (s.cmdOf l).target.x).natAbs + (r.y - (s.cmdOf l).target.y).natAbs ≤ s.slipThreshold)
    (hx : (r.x - (s.cmdOf l).target.x).natAbs ≤ 5) (hy : (r.y - (s.cmdOf l).target.y).natAbs ≤ 5)
    (hz : (r.z - (s.cmdOf l).target.z).natAbs ≤ 5)
    (hothers : ∀ k, k ≠ l → s.inStance k = true → ((s.footOf k).x - (s.cmdOf k).target.x).natAbs ≤ 5 ∧
      ((s.footOf k).y - (s.cmdOf k).target.y).natAbs ≤ 5 ∧ ((s.footOf k).z - (s.cmdOf k).target.z).natAbs ≤ 5) :
    ∃ t, exec (.legReportArrival l record) s = .next t ∧ (t.rxu.crouch = .clear → Completed s t) := by
  obtain ⟨links, told⟩ := reports_acts hr
  obtain ⟨-, -, -, -, awaits, -, -, -, free, clear, -⟩ := id hr
  have on : Onward s := onward_of_walksOn hwalk free clear
  obtain ⟨v, heard, stance, stale, reckoned⟩ := reckoned_within hr hin (by rw [on.body]; rfl) hforce hd on.pending
  have onV : Onward v := on.frame heard.pc heard.rxu (by rw [heard.pls]) (by rw [heard.ssq]) stale
  have acted : s.actedBy l r = v.tipTest.operationReport l r := by rw [actedBy, reckoned]
  have waits : v.pc.awaitFirst.get l = false := by rw [heard.pc]; exact awaits
  refine ⟨_, told, fun unhurt => ?_⟩
  have still : v.tipTest.rxu.crouch = .clear := by
    by_contra taken
    obtain ⟨running, lift, phase, placement, pc⟩ := tipTest_stoodAside onV taken
    refine operationReport_crouches (l := l) (r := r) running lift phase placement (by rw [pc]; rfl) (by rw [pc]; exact waits)
      taken ?_
    rw [← acted]
    exact unhurt
  obtain ⟨condition, raised, e⟩ := tipTest_marks onV.room onV.free still
  generalize hq : ({ v with scu.tipCondition := condition, scu.tipRaised := raised } : State) = q at e
  have heardQ : Heard s l r q := by rw [← hq]; exact { heard with }
  have stanceQ : q.scu.stance = s.scu.stance := by rw [← hq]; exact stance
  have onQ : Onward q := by rw [← hq]; exact onV.frame rfl rfl rfl rfl rfl
  have calibrated := calibReport_calibrated q l r
  have heardU := calibReport_hears heardQ
  have settled := heardU.settled ((congrArg Support.stance calibrated.scu).trans stanceQ) hx hy hz hothers
  rw [e, settled_completes onQ (by rw [heardQ.ssq, hphase]) (by rw [heardQ.pls, hplace]) (by rw [inStance, stanceQ]; exact hin)
    (by rw [heardQ.pc]; exact awaits) settled] at acted
  have onU : Onward (q.calibReport l r) := onQ.frame calibrated.pc calibrated.rxu (by rw [calibrated.pls])
    (by rw [calibrated.ssq]) (by rw [calibrated.scu])
  have completed := propelComplete_outcome onU (by rw [← acted]; exact unhurt)
  rw [← acted] at completed
  obtain ⟨odometer, sway, zone, step, stride⟩ := completed
  have after : (q.calibReport l r).odometerAfter = s.odometerAfter := by
    unfold odometerAfter
    rw [heardU.ssq]
  rw [after] at odometer
  rw [heardU.ztb] at zone
  rw [heardU.ssq] at step stride
  exact ⟨odometer, sway, zone, step, stride⟩

end State
end Sys2Proof.Machine
end


section
/-! ## First reports while the survey runs (R15), and the last of a CROUCH (R156) -/

namespace Sys2Proof.Machine

theorem judgeReport_inRanges {record : List Byte} {r : Report} (h : judgeReport record = .good r) : r.inRanges = true := by
  unfold judgeReport at h
  split at h
  · cases h
  · split_ifs at h with _ _ inRanges
    cases h
    exact inRanges

/-- R45: a foot that a good report gives is in the range of a target. -/
theorem clampPoint_of_good {record : List Byte} {r : Report} (h : judgeReport record = .good r) :
    clampPoint ⟨r.x, r.y, r.z⟩ = ⟨r.x, r.y, r.z⟩ := by
  obtain ⟨xl, xu, yl, yu, zl, zu, -⟩ := Report.inRanges_iff.mp (judgeReport_inRanges h)
  simp only [clampPoint, clamp, Point.mk.injEq]
  omega

namespace State

open Watched (Kept LinkKept LegKept Grounded)

variable {s t u q : State} {l : Leg} {r : Report} {record : List Byte}

/-! ### A first report -/

theorem restanced_survey (s : State) : s.restanced.scu.survey = s.scu.survey :=
  foldl_keeps (fun s => s.scu.survey) (fun s l => by simp) _ _

/-- R41: in the survey a change of the stance set brings no test, and with nothing under way nothing waits on it. -/
theorem stanceChange_in_survey (hb : s.pc.body = .unsettled) (hs : s.scu.survey = true) (hrun : s.rxu.running = none)
    (hphase : s.ssq.phase = .idle) :
    s.stanceChange.pc = s.pc ∧ s.stanceChange.ssq = s.ssq ∧ s.stanceChange.scu.survey = true ∧
      s.stanceChange.scu.stance = s.stanceDerived := by
  unfold stanceChange
  split
  · rename_i current
    exact ⟨rfl, rfl, hs, current.symm⟩
  · rename_i stale
    have untested : s.restanced.tipTested = false := by
      simp [tipTested, restanced_survey, hb, hs]
    have updated : s.stanceUpdate = { s.restanced with scu.tipRaised := false } :=
      (stanceUpdateWith_of_stale _ _ stale).trans (tipTest_of_untested untested)
    have running : s.restanced.rxu.running = none := (congrArg Reflexes.running (restanced_unlisted s) :).trans hrun
    have waits : ({ s.restanced with scu.tipRaised := false } : State).settleWaiters =
        { s.restanced with scu.tipRaised := false } := by
      unfold settleWaiters
      simp only [running, restanced_ssq, hphase]
      split <;> rfl
    rw [updated, waits]
    exact ⟨restanced_pc s, restanced_ssq s, (restanced_survey s).trans hs, restanced_stance s⟩

/-- R15: the leg made STANCE where its first report finds it. -/
def foundAt (s : State) (l : Leg) (r : Report) : State :=
  let s := { s with pc.awaitFirst := s.pc.awaitFirst.set l false }
  let s := s.setCmd l .stance ⟨r.x, r.y, r.z⟩ (s.cmdOf l).clearance
  if 60 ≤ r.force then s.setVerified l true else s

theorem foundAt_effect (s : State) (l : Leg) (r : Report) :
    (s.foundAt l r).pc = { s.pc with awaitFirst := s.pc.awaitFirst.set l false } ∧ (s.foundAt l r).scu = s.scu ∧
      (s.foundAt l r).rxu = s.rxu ∧ (s.foundAt l r).ssq.phase = s.ssq.phase ∧
      (s.foundAt l r).cmdOf l =
        { mode := .stance, target := clampPoint ⟨r.x, r.y, r.z⟩, clearance := (s.cmdOf l).clearance } ∧
      (∀ k, k ≠ l → (s.foundAt l r).cmdOf k = s.cmdOf k) ∧
      (s.foundAt l r).verifiedOf l = (s.verifiedOf l || decide (60 ≤ r.force)) ∧
      ((s.foundAt l r).link l).link = (s.link l).link ∧ ((s.foundAt l r).link l).withdrawn = (s.link l).withdrawn := by
  unfold foundAt
  dsimp only
  generalize hq : ({ s with pc.awaitFirst := s.pc.awaitFirst.set l false } : State) = q
  have commanded : (q.setCmd l .stance ⟨r.x, r.y, r.z⟩ (q.cmdOf l).clearance).verifiedOf l = q.verifiedOf l :=
    congrArg (PerLeg.get · l) (setCmd_verified (by decide) (by decide) q l _ _)
  have phase : (q.setCmd l .stance ⟨r.x, r.y, r.z⟩ (q.cmdOf l).clearance).ssq.phase = q.ssq.phase :=
    (congrArg Strider.phase (setCmd_uncommanded q l .stance _ _) :)
  have rxu := setCmd_rxu (m := .stance) (by decide) q l ⟨r.x, r.y, r.z⟩ (q.cmdOf l).clearance
  have cmd := setCmd_cmdOf_self q l .stance ⟨r.x, r.y, r.z⟩ (q.cmdOf l).clearance
  have others (k : Leg) (hk : k ≠ l) := setCmd_cmdOf_of_ne q .stance ⟨r.x, r.y, r.z⟩ (q.cmdOf l).clearance hk
  have link := setCmd_linkState q l l .stance ⟨r.x, r.y, r.z⟩ (q.cmdOf l).clearance
  have withdrawn := setCmd_withdrawn q l l .stance ⟨r.x, r.y, r.z⟩ (q.cmdOf l).clearance
  have pc := setCmd_pc q l .stance ⟨r.x, r.y, r.z⟩ (q.cmdOf l).clearance
  have scu := setCmd_scu q l .stance ⟨r.x, r.y, r.z⟩ (q.cmdOf l).clearance
  generalize q.setCmd l .stance ⟨r.x, r.y, r.z⟩ (q.cmdOf l).clearance = v at *
  subst hq
  split
  · rename_i loaded
    exact ⟨pc, scu, rxu, phase, cmd, others, by simp [setVerified, verifiedOf, loaded], link, withdrawn⟩
  · rename_i unloaded
    exact ⟨pc, scu, rxu, phase, cmd, others, by rw [decide_eq_false unloaded, Bool.or_false]; exact commanded, link, withdrawn⟩

/-- R15, R41: a first report while other legs still await theirs. -/
theorem firstReport_in_survey (hb : s.pc.body = .unsettled) (hs : s.scu.survey = true) (hrun : s.rxu.running = none)
    (hphase : s.ssq.phase = .idle) (ha : s.admitted l = true) (hothers : ∃ k, k ≠ l ∧ s.pc.awaitFirst.get k = true) :
    s.firstReport l r = (s.foundAt l r).stanceChange := by
  obtain ⟨pc, scu, rxu, phase, -⟩ := foundAt_effect s l r
  obtain ⟨k, hk, awaits⟩ := hothers
  have changed := stanceChange_in_survey (s := s.foundAt l r) (by rw [pc]; exact hb) (by rw [scu]; exact hs)
    (by rw [rxu]; exact hrun) (by rw [phase]; exact hphase)
  obtain ⟨pc', -⟩ := changed
  have goesOn : ((s.foundAt l r).stanceChange.pc.awaitFirst == .all false) = false := by
    refine beq_false_of_ne fun none => ?_
    have waits : (s.foundAt l r).stanceChange.pc.awaitFirst.get k = true := by
      rw [pc', pc]
      exact (PerLeg.get_set_of_ne _ _ hk).trans awaits
    rw [none] at waits
    cases k <;> cases waits
  have parts : s.firstReport l r =
      if (s.foundAt l r).stanceChange.scu.survey && (s.foundAt l r).stanceChange.pc.awaitFirst == .all false then
        (s.foundAt l r).stanceChange.endSurvey
      else (s.foundAt l r).stanceChange := by
    have admits : ({ s with pc.awaitFirst := s.pc.awaitFirst.set l false } : State).admitted l = true := ha
    unfold firstReport foundAt
    dsimp only
    rw [if_pos admits]
    simp only [hb]
  rw [parts, goesOn, Bool.and_false]
  rfl

/-- R15: the first report of a leg found in HOLD, the survey still running. -/
theorem report_of_first (ha : (s.link l).awaiting = true) (hr : judgeReport record = .good r) (hl : (s.link l).link = .ok)
    (hb : s.pc.body = .unsettled) (hs : s.scu.survey = true) (hf : s.pc.awaitFirst.get l = true)
    (hothers : ∃ k, k ≠ l ∧ s.pc.awaitFirst.get k = true) (hwd : (s.link l).withdrawn = false) (hmode : s.modeOf l = .hold)
    (clear : s.rxu.crouch = .clear) (hrun : s.rxu.running = none) (hphase : s.ssq.phase = .idle)
    (hplace : s.pls.placement = none) (hset : StanceSetCurrent s) (hob : r.obstruct = false) (hov : r.overload = false)
    (hclear : (s.link l).overload = false) :
    ∃ t, exec (.legReportArrival l record) s = .next t ∧
      t.cmdOf l = { s.cmdOf l with mode := .stance, target := ⟨r.x, r.y, r.z⟩ } ∧
      t.verifiedOf l = (s.verifiedOf l || decide (60 ≤ r.force)) ∧ t.inStance l = t.verifiedOf l ∧
      t.pc = { s.pc with awaitFirst := s.pc.awaitFirst.set l false } ∧ t.scu.survey = true ∧
      (∀ k, k ≠ l → t.cmdOf k = s.cmdOf k) := by
  obtain ⟨links, told⟩ := acts_of_unflagged ha hr hl hob hov hclear hset
  have aside := aside_of_mode hset (show s.modeOf l ≠ .stance by rw [hmode]; decide)
  have heard := steadied_hears (warmedBy_hears hl r)
  have steadied : ((s.warmedBy l r).steadied l r).scu = s.scu := by
    rw [steadied_blocks]
    exact warmedBy_scu ..
  have acted : s.actedBy l r = ((s.warmedBy l r).steadied l r).operationReport l r := by
    rw [actedBy, reckoned_of_aside aside]
  generalize (s.warmedBy l r).steadied l r = q at heard steadied acted
  have waits : q.waitingOn l = .nothing := by
    rcases waitingOn_cases q l with ⟨-, running, -⟩ | ⟨-, -, lifts⟩ | ⟨-, swings, -⟩ | ⟨-, places⟩ | ⟨-, stance⟩ | e
    · rw [heard.rxu, clear] at running
      cases running
    · rw [heard.rxu, hrun] at lifts
      cases lifts
    · rw [heard.ssq, hphase] at swings
      cases swings
    · rw [heard.pls, hplace] at places
      cases places
    · rw [inStance, steadied] at stance
      cases aside.symm.trans stance
    · exact e
  obtain ⟨pc, scu, rxu, phase, cmd, others, verified, link, withdrawn⟩ := foundAt_effect q l r
  have first := firstReport_in_survey (s := q) (l := l) (r := r) (by rw [heard.pc, hb]) (by rw [steadied, hs])
    (by rw [heard.rxu, hrun]) (by rw [heard.ssq, hphase]) (by rw [heard.admitted, State.admitted, hwd]; rfl)
    (by rw [heard.pc]; exact hothers)
  obtain ⟨pc', ssq', survey, stance⟩ := stanceChange_in_survey (s := q.foundAt l r) (by rw [pc]; exact (by rw [heard.pc, hb]))
    (by rw [scu, steadied, hs]) (by rw [rxu, heard.rxu, hrun]) (by rw [phase, heard.ssq, hphase])
  have served : s.actedBy l r = (q.foundAt l r).stanceChange.calibReport l r := by
    have body : (q.foundAt l r).stanceChange.pc.body = .unsettled := by rw [pc', pc, heard.pc]; exact hb
    have awaits : q.pc.awaitFirst.get l = true := by rw [heard.pc, hf]
    rw [acted]
    unfold operationReport
    simp only [awaits, if_true, first, waits, calibReport_pc, body, waitingReport]
  have calibrated := calibReport_calibrated (q.foundAt l r).stanceChange l r
  rw [← served] at calibrated
  have cmdOf (k : Leg) : (s.actedBy l r).cmdOf k = (q.foundAt l r).cmdOf k :=
    congrArg (fun x : Strider => x.cmd.get k) (calibrated.ssq.trans ssq')
  have flag : (s.actedBy l r).verifiedOf l = (q.foundAt l r).verifiedOf l :=
    congrArg (fun x : Strider => x.verified.get l) (calibrated.ssq.trans ssq')
  have same (k : Leg) : q.cmdOf k = s.cmdOf k := congrArg (fun x : Strider => x.cmd.get k) heard.ssq
  have tied : (s.actedBy l r).inStance l = (q.foundAt l r).verifiedOf l := by
    rw [inStance, calibrated.scu, stance]
    have ground : (q.foundAt l r).modeOf l = .stance := congrArg LegCmd.mode cmd
    simp [stanceDerived, ground, linkOk, link, heard.link, hl, State.admitted, withdrawn, heard.withdrawn, hwd]
  refine ⟨_, told, ?_, ?_, tied.trans flag.symm, ?_, ?_, fun k hk => ?_⟩
  · refine (cmdOf l).trans ?_
    rw [cmd, clampPoint_of_good hr, same]
  · refine flag.trans (verified.trans ?_)
    unfold verifiedOf
    rw [heard.ssq]
  · refine calibrated.pc.trans ?_
    rw [pc', pc, heard.pc]
  · exact (congrArg Support.survey calibrated.scu).trans survey
  · exact (cmdOf k).trans ((others k hk).trans (same k))

/-! ### The last report of a CROUCH -/

/-- What a report leaves of the body and of a CROUCH while one goes on. -/
structure Crouching (s t : State) : Prop where
  pc : t.pc = s.pc
  cmd : t.ssq.cmd = s.ssq.cmd
  ztb : t.ztb = s.ztb
  crouch : t.rxu.crouch = s.rxu.crouch
  crouching : t.rxu.crouching = s.rxu.crouching
  stageTimer : t.rxu.stageTimer = s.rxu.stageTimer
  stack : t.rxu.stack = s.rxu.stack
  running : t.rxu.running = s.rxu.running

theorem Crouching.refl (s : State) : Crouching s s := ⟨rfl, rfl, rfl, rfl, rfl, rfl, rfl, rfl⟩

theorem Crouching.trans (h₁ : Crouching s t) (h₂ : Crouching t u) : Crouching s u :=
  ⟨h₂.pc.trans h₁.pc, h₂.cmd.trans h₁.cmd, h₂.ztb.trans h₁.ztb, h₂.crouch.trans h₁.crouch, h₂.crouching.trans h₁.crouching,
    h₂.stageTimer.trans h₁.stageTimer, h₂.stack.trans h₁.stack, h₂.running.trans h₁.running⟩

theorem Crouching.ite {c : Prop} [Decidable c] (ht : Crouching s t) (hu : Crouching s u) : Crouching s (if c then t else u) := by
  split
  · exact ht
  · exact hu

/-- R137: while a CROUCH goes on, a cause is listed or dropped. -/
theorem raiseCause_crouching (taken : s.rxu.crouch ≠ .clear) (c : Cause) (l : Leg) : Crouching s (s.raiseCause c l) := by
  rcases raiseCause_cases s c l with ⟨-, e⟩ | ⟨-, -, -, e⟩ | ⟨atOnce, -⟩
  · rw [e]
    cases c <;> exact ⟨rfl, rfl, rfl, rfl, rfl, rfl, rfl, rfl⟩
  · rw [e]
    exact .ite (.refl s) ⟨rfl, rfl, rfl, rfl, rfl, rfl, rfl, rfl⟩
  · obtain ⟨-, -, -, clear, -⟩ := takesAtOnce_iff.mp atOnce
    exact absurd clear taken

/-- R154: while a CROUCH goes on, a TIP is no more than noted. -/
theorem tipTest_crouching (taken : s.rxu.crouch ≠ .clear) : Crouching s s.tipTest := by
  rcases tipTestWith_cases raiseTip s with ⟨-, e⟩ | ⟨-, -, e⟩ | ⟨-, -, -, e⟩ | ⟨-, -, -, e⟩ <;> rw [tipTest, e]
  · exact ⟨rfl, rfl, rfl, rfl, rfl, rfl, rfl, rfl⟩
  · exact ⟨rfl, rfl, rfl, rfl, rfl, rfl, rfl, rfl⟩
  · exact ⟨rfl, rfl, rfl, rfl, rfl, rfl, rfl, rfl⟩
  · obtain ⟨dropped, hli, noted⟩ :=
      raiseTip_not_taken (s := { s with scu.tipCondition := true, scu.tipRaised := true }) (.inr taken)
    rw [noted]
    exact ⟨rfl, rfl, rfl, rfl, rfl, rfl, rfl, rfl⟩

theorem reckoned_crouching (taken : s.rxu.crouch ≠ .clear) (l : Leg) : Crouching s (s.reckoned l) := by
  have recomputed : Crouching s s.recompute := ⟨rfl, rfl, rfl, rfl, rfl, rfl, rfl, rfl⟩
  exact .ite (recomputed.trans (tipTest_crouching taken)) (.refl s)

theorem steadied_crouching (s : State) (l : Leg) (r : Report) : Crouching s (s.steadied l r) := by
  rw [steadied_blocks]
  exact ⟨rfl, rfl, rfl, rfl, rfl, rfl, rfl, rfl⟩

theorem endSlip_crouching (s : State) (l : Leg) : Crouching s (s.endSlip l) := by
  rw [endSlip_blocks]
  exact ⟨rfl, rfl, rfl, rfl, rfl, rfl, rfl, rfl⟩

theorem judgedSlip_crouching (taken : s.rxu.crouch ≠ .clear) : Crouching s (s.judgedSlip l r) := by
  by_cases steady : (s.slipOf l).steady = true
  · rw [judgedSlip_eq steady]
    have recorded : Crouching s (s.recorded l (s.deviation l r)) := by
      rw [recorded_blocks]
      exact ⟨rfl, rfl, rfl, rfl, rfl, rfl, rfl, rfl⟩
    generalize s.recorded l (s.deviation l r) = v at recorded
    have marked : Crouching v (v.slipMarked l) := ⟨rfl, rfl, rfl, rfl, rfl, rfl, rfl, rfl⟩
    refine .ite (.ite recorded (recorded.trans (marked.trans (raiseCause_crouching ?_ _ l))))
      (recorded.trans (endSlip_crouching v l))
    rw [marked.crouch, recorded.crouch]
    exact taken
  · unfold judgedSlip
    rw [if_neg steady]
    exact .refl s

theorem unloadLimit_le_contact (c : Surface) : c.unloadLimit ≤ c.contact := by cases c <;> decide

/-- R129: a report under enough force, while a CROUCH goes on. -/
theorem slipReport_crouching (taken : s.rxu.crouch ≠ .clear) (hforce : s.zone.surface.contact ≤ r.force) (l : Leg) :
    Crouching s (s.slipReport l r) := by
  have steadied := steadied_crouching s l r
  cases aside : s.inStance l && s.pc.body.standing with
  | false =>
    rw [slipReport_of_aside aside]
    exact steadied
  | true =>
    obtain ⟨stance, stands⟩ := Bool.and_eq_true_iff.mp aside
    have zone : (s.steadied l r).zone = s.zone := zone_congr steadied.ztb
    have loaded := (unloadLimit_le_contact s.zone.surface).trans hforce
    rw [slipReport_of_stance stance stands, stanceReport_eq, zone, if_neg (Int.not_lt.mpr loaded)]
    have counted : Crouching (s.steadied l r) ((s.steadied l r).counted l 0) := ⟨rfl, rfl, rfl, rfl, rfl, rfl, rfl, rfl⟩
    refine steadied.trans (counted.trans (judgedSlip_crouching ?_))
    rw [counted.crouch, steadied.crouch]
    exact taken

theorem obstructFlag_crouching (taken : s.rxu.crouch ≠ .clear) (l : Leg) (r : Report) : Crouching s (s.obstructFlag l r) := by
  have marked (b : Bool) : Crouching s { s with llc := s.llc.modify l fun k => { k with obstruct := b } } :=
    ⟨rfl, rfl, rfl, rfl, rfl, rfl, rfl, rfl⟩
  exact .ite (.ite ((marked true).trans (raiseCause_crouching (by exact taken) _ l)) (.refl s)) (marked false)

theorem overloadFlag_crouching (taken : s.rxu.crouch ≠ .clear) (l : Leg) (r : Report) : Crouching s (s.overloadFlag l r) := by
  have marked : Crouching s { s with llc := s.llc.modify l fun k => { k with overload := true } } :=
    ⟨rfl, rfl, rfl, rfl, rfl, rfl, rfl, rfl⟩
  exact .ite (.ite (marked.trans (raiseCause_crouching (by exact taken) _ l)) (.refl s))
    (.ite ⟨rfl, rfl, rfl, rfl, rfl, rfl, rfl, rfl⟩ (.refl s))

/-- R156: the CROUCH completes once each of its legs is at the crouch height and in contact. -/
theorem crouchComplete_of (h : ∀ k, s.rxu.crouching.get k = true →
    ∃ q, (s.link k).last = some q ∧ (q.z - s.pc.geom.crouch).natAbs ≤ 10 ∧ s.zone.surface.contact ≤ q.force) :
    s.crouchComplete = true := by
  refine List.all_eq_true.mpr fun k _ => ?_
  cases crouches : s.rxu.crouching.get k with
  | false => rfl
  | true =>
    obtain ⟨q, last, height, force⟩ := h k crouches
    simp [nearHeight, loadedAt, last, height, contactInForce, force]

/-- R156: the last report that a CROUCH waits for. -/
theorem report_ends_crouch (ha : (s.link l).awaiting = true) (hr : judgeReport record = .good r) (hl : (s.link l).link = .ok)
    (running : s.rxu.crouch = .running) (hin : s.rxu.crouching.get l = true) (free : s.pc.protect = false)
    (hb : s.pc.body = .recover) (hf : s.pc.awaitFirst.get l = false) (hset : StanceSetCurrent s)
    (hz : (r.z - s.pc.geom.crouch).natAbs ≤ 10) (hforce : s.zone.surface.contact ≤ r.force)
    (hothers : ∀ k, k ≠ l → s.rxu.crouching.get k = true →
      ∃ q, (s.link k).last = some q ∧ (q.z - s.pc.geom.crouch).natAbs ≤ 10 ∧ s.zone.surface.contact ≤ q.force) :
    ∃ t, exec (.legReportArrival l record) s = .next t ∧ t.rxu.crouch = .crouched ∧ t.rxu.stageTimer = none ∧
      t.rxu.stack = s.rxu.stack ∧ t.rxu.running = s.rxu.running ∧ t.pc = s.pc ∧ t.ssq.cmd = s.ssq.cmd := by
  have taken : s.rxu.crouch ≠ .clear := by rw [running]; decide
  have heard := warmedBy_hears hl r
  have warmed : Crouching s (s.warmedBy l r) :=
    ⟨heard.pc, congrArg Strider.cmd heard.ssq, heard.ztb, congrArg Reflexes.crouch heard.rxu,
      congrArg Reflexes.crouching heard.rxu, congrArg Reflexes.stageTimer heard.rxu, congrArg Reflexes.stack heard.rxu,
      congrArg Reflexes.running heard.rxu⟩
  have slipped := warmed.trans (slipReport_crouching (by rw [warmed.crouch]; exact taken)
    (by rw [warmedBy_zone]; exact hforce) l)
  have found := slipped.trans (reckoned_crouching (by rw [slipped.crouch]; exact taken) l)
  have links : Keeps none false (s.warmedBy l r) (((s.warmedBy l r).slipReport l r).reckoned l) :=
    (slipReport_kept _ l r).trans (reckoned_kept _ l)
  have acts : s.actedBy l r = (((s.warmedBy l r).slipReport l r).reckoned l).operationReport l r := rfl
  have last (k : Leg) : ((((s.warmedBy l r).slipReport l r).reckoned l).link k).last = ((s.warmedBy l r).link k).last :=
    (congrArg Link.last (links.links k).heard :)
  generalize ((s.warmedBy l r).slipReport l r).reckoned l = q at found acts last
  have waits : q.waitingOn l = .crouch := by
    unfold waitingOn
    simp [found.pc, free, found.crouch, running, found.crouching, hin]
  have calibrated := calibReport_calibrated q l r
  have served (k : Leg) : ((q.calibReport l r).link k).last = (q.link k).last :=
    (congrArg Link.last ((calibReport_kept (w := none) (d := false) q l r).links k).heard :)
  have complete : (q.calibReport l r).crouchComplete = true := by
    refine crouchComplete_of fun k crouches => ?_
    have zone : (q.calibReport l r).zone = s.zone := zone_congr (calibrated.ztb.trans found.ztb)
    rw [zone, calibrated.pc, found.pc, served, last]
    by_cases hk : k = l
    · subst hk
      exact ⟨r, heard.last, hz, hforce⟩
    · rw [heard.others k hk]
      refine hothers k hk ?_
      rw [← found.crouching, ← calibrated.rxu]
      exact crouches
  have acted : s.actedBy l r = (q.calibReport l r).crouched .done := by
    rw [acts, operationReport_eq (by rw [found.pc, hb]; rfl) (by rw [found.pc, hf]), waits, waitingReport, complete,
      if_pos rfl]
  have ended : (s.actedBy l r).rxu = { q.rxu with crouch := .crouched, stageTimer := none } ∧ (s.actedBy l r).pc = q.pc ∧
      (s.actedBy l r).ssq = q.ssq := by
    rw [acted]
    unfold crouched
    rw [postNote_rxu, postNote_pc, postNote_ssq]
    exact ⟨by rw [calibrated.rxu], calibrated.pc, calibrated.ssq⟩
  obtain ⟨rxu, pc, ssq⟩ := ended
  have down : (s.actedBy l r).rxu.crouch ≠ .clear := by rw [rxu]; exact nofun
  have flagged := obstructFlag_crouching down l r
  have judged := flagged.trans (overloadFlag_crouching (by rw [flagged.crouch]; exact down) l r)
  refine ⟨_, report_flags ha hr hl hset, ?_⟩
  rw [endExchange_eq]
  exact ⟨judged.crouch.trans (by rw [rxu]), judged.stageTimer.trans (by rw [rxu]),
    judged.stack.trans (by rw [rxu]; exact found.stack), judged.running.trans (by rw [rxu]; exact found.running),
    judged.pc.trans (pc.trans found.pc), judged.cmd.trans (by rw [ssq]; exact found.cmd)⟩

end State
end Sys2Proof.Machine
end


section

open Sys2Proof Sys2Proof.Machine

/-- Settles O58, clause by clause: what a report that keeps to the rest of its exchange does to the body, the walk and the
slip records; first reports, the CROUCH, the flags and lost links; module faults; and the judgement of records. -/
theorem takenReportsMoveTheBodyOn : Obligations.TakenReportsMoveTheBodyOn := by
  refine ⟨fun s l record r hr => ⟨?_, ?_, ?_, ?_, ?_, ?_, ?_⟩, fun s l record r ha hr => ⟨?_, ?_, fun hl => ⟨?_, ?_⟩, ?_, ?_, ?_⟩,
    fun s l record ha hr => ⟨?_, ?_⟩, fun record => ⟨?_, fun r hr sum => ⟨?_, ?_⟩⟩⟩
  · exact fun hb hs hw others hz hf => State.report_ends_rise hr hb hs hw others hz hf
  · exact fun hb off => State.report_in_rise hr hb off
  · exact fun hb lowered others hz => State.report_ends_lowering hr hb lowered others hz
  · exact fun hphase hstep hmode hlift hb hone hdone => State.report_ends_swing hr hphase hstep hmode hlift hb hone hdone
  · exact fun hplace hsub hmode hphase hwalk hlift _ hforce hnear =>
      State.report_verifies hr hplace hsub hmode hphase hwalk hlift hforce hnear
  · intro hphase hin hwalk hplace hforce hd hx hy hz others
    obtain ⟨t, told, completed⟩ := State.report_ends_propel hr hphase hin hwalk hplace hforce hd hx hy hz others
    refine ⟨t, told, fun clear => ?_⟩
    obtain ⟨odometer, sway, zone, step, stride⟩ := completed clear
    exact ⟨odometer, sway, zone, step, stride⟩
  · intro hin hb hrun hs hw hplace d
    have reporting : State.Reporting s l record r := ⟨hr, hin, hb, hrun, hs, hw, hplace⟩
    exact ⟨fun hf steady within => State.report_within_threshold reporting hf steady within,
      fun hf steady beyond window slip live => State.report_beyond_threshold reporting hf steady beyond window slip live,
      fun low count => State.report_of_low_force reporting low count,
      fun low count live => State.report_of_low_force_again reporting low count live⟩
  · exact fun hl hb hs hf others hwd hmode _ clear hrun hphase hplace hset hob hov hclear =>
      State.report_of_first ha hr hl hb hs hf others hwd hmode clear hrun hphase hplace hset hob hov hclear
  · exact fun hl running hin free hb hf hset hz hforce others =>
      State.report_ends_crouch ha hr hl running hin free hb hf hset hz hforce others
  · exact State.report_clears_obstruct ha hr hl
  · exact State.report_clears_overload ha hr hl
  · intro hl hb hwd hf hset live hrun hw
    exact ⟨fun hob hov clear mode done place =>
        State.report_raises_obstruct ha hr hl hb hwd hf hset live hrun hob hov clear mode done place,
      fun hov clear mode => State.report_raises_overload ha hr hl hb hwd hf hset live hrun hw hov clear mode⟩
  · exact State.report_of_lost ha hr
  · exact State.report_recovers ha hr
  · exact State.report_of_told_fault ha hr
  · exact State.report_of_fault ha hr
  · exact judgeReport_of_length
  · intro fault
    rw [judgeReport_of_sound hr sum, fault]
    rfl
  · intro within fault
    rw [judgeReport_of_sound hr sum, fault]
    exact ⟨fun inside => if_pos (Report.inRanges_iff.mpr inside),
      fun outside => if_neg fun inside => outside (Report.inRanges_iff.mp inside)⟩

end
